-- ==== Sys2Proof/Word.lean ====
section
/-! DEFINITION. The words, addresses and numbers of the QM16 (section 0.6), and the arithmetic on them that no rule
owns: the saturating count and the plain update of every place of a table. -/

namespace Sys2Proof

/-- A byte of a management frame, or the byte strobes of a beat. -/
abbrev Byte := BitVec 8

/-- A word is 8 bytes (section 0.6.1). -/
abbrev Word := BitVec 64

/-- Addresses are 40 bits wide and are taken modulo 2^40 (section 0.6.1, R156). -/
abbrev Addr := BitVec 40

/-- An initiator number, 0 to 7. -/
abbrev InitId := Fin 8

/-- A queue number, 0 to 15. -/
abbrev QueueId := Fin 16

/-- An index of the Aperture Table, 0 to 15. -/
abbrev ApId := Fin 16

/-- An index of the Put Binding Table or of the Take Binding Table, 0 to 15. -/
abbrev EntryId := Fin 16

/-- A wait slot, 0 to 7. -/
abbrev SlotId := Fin 8

/-- One more, stopping at the largest value of the width (section 0.6.3, R17, R153). -/
def satInc {w : Nat} (x : BitVec w) : BitVec w :=
  if x = BitVec.allOnes w then x else x + 1#w

/-- The numbers 0 to 15 in ascending order: queues, aperture entries, binding entries. -/
def upTo16 : List (Fin 16) := [0, 1, 2, 3, 4, 5, 6, 7, 8, 9, 10, 11, 12, 13, 14, 15]

/-- The numbers 0 to 7 in ascending order: initiators, wait slots. -/
def upTo8 : List (Fin 8) := [0, 1, 2, 3, 4, 5, 6, 7]

/-- A table with `f` applied to every place. -/
def mapTable {α β : Type} {n : Nat} (f : α → β) (v : Vector α n) : Vector β n :=
  ⟨⟨v.toList.map f⟩, by simp⟩

/-- The table that holds `f i` at place `i`, for the sixteen queues. -/
def tabulate16 {α : Type} (f : Fin 16 → α) : Vector α 16 :=
  ⟨⟨upTo16.map f⟩, by simp [upTo16]⟩

end Sys2Proof
end

