-- ==== Sys2Proof/Config.lean ====
section
/-! DEFINITION. What the part fixes for good: its identifiers, its revision and its capacities (R174, section 13.4). No
value of the spec is left open, so no free value stands here. -/

namespace Sys2Proof.Config

/-- The vendor identifier (section 13.4). -/
def vendorId : BitVec 16 := 0x0A35#16

/-- The part identifier (section 13.4). -/
def partId : BitVec 16 := 0x0016#16

/-- The revision of the part (section 13.4). -/
def revision : Byte := 0x01#8

/-- The one-byte capacities in the order of section 13.4: initiators, queues, aperture entries, put bindings, take
bindings, wait slots, lock entries, fault records. -/
def capacities : List Byte := [8#8, 16#8, 16#8, 16#8, 16#8, 8#8, 4#8, 8#8]

/-- The largest pool (R1, section 13.4). -/
def largestPool : Nat := 1024

/-- The accepted and unanswered requests an initiator may have (R157). -/
def channelDepth : Nat := 4

/-- The beats a request may carry (R156). -/
def mostBeats : Nat := 16

/-- The presented requests the MP may have outstanding (R163). -/
def outstandingLimit : Nat := 16

/-- The entries of the word lock set (R137). -/
def lockEntries : Nat := 4

/-- The records the fault log holds (R153). -/
def logDepth : Nat := 8

/-- The queues a divert walk visits besides the origin (R78). -/
def divertVisits : Nat := 3

/-- The command code of QUEUE_FLUSH (section 13.1). -/
def flushCode : Byte := 0x24#8

end Sys2Proof.Config
end

