-- ==== Sys2Proof/Syntax.lean ====
section
/-! DEFINITION. The commands of the QM16: one constructor per row of spec/opcode_table.json, with the operands of the
row. A command names an event at the part; what each does is in Sys2Proof/Machine/. -/

namespace Sys2Proof

/-- One beat of a WRITE: a 64-bit word and its eight byte strobes (R156). -/
structure WriteBeat where
  data    : Word
  strobes : Byte
deriving DecidableEq, Repr

/-- What a request carries besides its start address: a READ carries its beat count, a WRITE the data and strobes of
each beat (R156). -/
inductive Body where
  | read  (beats : Nat)
  | write (beats : List WriteBeat)
deriving DecidableEq, Repr

/-- A request on the system port, its initiator aside: the channel it is offered to names that (R156, R157). -/
structure Request where
  addr : Addr
  body : Body
deriving DecidableEq, Repr

/-- One beat of a response of memory: its error indication, and the data for a READ (R165). -/
structure MemBeat where
  error : Bool
  data  : Word
deriving DecidableEq, Repr

/-- The fields of an APERTURE_WRITE argument as the frame carries them (section 13.2). -/
structure ApertureImage where
  base       : Addr
  sizeExp    : Byte
  kind       : Byte
  permitted  : Byte
  queue      : Byte
  reported   : BitVec 16
  operation  : Byte
  mask       : Word
  targetBase : Addr
deriving DecidableEq, Repr

/-- The fields of a QUEUE_CONFIG_WRITE argument as the frame carries them (section 13.3). -/
structure ConfigImage where
  cellLen      : Byte
  limit        : BitVec 16
  policy       : Byte
  divertTarget : Byte
  report       : Byte
  emptyPattern : Word
  takeWait     : BitVec 16
  putWait      : BitVec 16
  watermark    : BitVec 16
  line         : Byte
  eventMask    : Byte
deriving DecidableEq, Repr

/-- The commands, in the order of the table's families. A command on "the current request" names the initiator whose
channel it stands at the head of (R158). An acknowledgement names no initiator: it belongs to the request at the head of
the MP's outstanding list, and carries what memory returned for each of its beats (R165). -/
inductive Instr where
  -- system port
  | requestAccept (init : InitId) (offer : Option Request)
  | adRefusalAnswer (init : InitId)
  | passThrough (init : InitId)
  | passThroughAck (beats : List MemBeat)
  -- composing messages
  | putWindowWrite (init : InitId)
  | compositionWriteAck (beats : List MemBeat)
  | closingWriteAck (beats : List MemBeat)
  | putWindowRead (init : InitId)
  | putWindowReadAck (beats : List MemBeat)
  -- taking messages
  | takeWindowRead (init : InitId)
  | takeReadAck (beats : List MemBeat)
  | closingReadAck (beats : List MemBeat)
  | peekRead (init : InitId)
  | peekAck (beats : List MemBeat)
  -- control page writes
  | abandon (init : InitId)
  | returnWord (init : InitId)
  | eventsWrite (init : InitId)
  | controlWordWrite (init : InitId)
  -- merge apertures
  | mergeRead (init : InitId)
  | mergeReadAck (beats : List MemBeat)
  | mergeWrite (init : InitId)
  | mergeBeatLock (init : InitId)
  | mergeBeatReadIssue (init : InitId)
  | mergeBeatReadAck (beats : List MemBeat)
  | mergeBeatWriteAck (beats : List MemBeat)
  | lockWaiterRelease
  -- memory port
  | memoryPresent
  | discardedAck (beats : List MemBeat)
  -- waits and flush completion
  | tickAdvance
  | heldTakeExpiry (init : InitId)
  | heldPutExpiry (init : InitId)
  | heldPutGrant
  | heldTakeService (queue : QueueId)
  | flushCompletion (queue : QueueId)
  -- resets
  | sysResetAssert
  | sysResetRelease
  | resetDrainEnd
  | pwrResetAssert
  | pwrResetRelease
  -- frames of the management link
  | frameAbort
  | responseCut
  | unknownCommand (code : Byte)
  -- commands of the management link
  | identify
  | status
  | apertureRead (entry : Byte)
  | apertureWrite (entry : Byte) (image : ApertureImage)
  | apertureEnable (entry : Byte)
  | apertureDisable (entry : Byte)
  | queueConfigRead (queue : Byte)
  | queueConfigWrite (queue : Byte) (image : ConfigImage)
  | queueEnable (queue : Byte)
  | queueDisable (queue : Byte)
  | queueFlush (queue : Byte)
  | queueStateRead (queue : Byte)
  | countersClear (queue : Byte)
  | eventsClear (queue : Byte) (selection : Byte)
  | poolConfig (base : Addr) (cells : BitVec 16) (guardEnable : Byte)
  | tickConfig (intervalMinusOne : BitVec 16)
  | steerOn
  | steerOff
  | lineConfig (routing : Byte)
  | faultPeek
  | faultDrop
  -- reads answered at once
  | summaryRead (init : InitId)
  | controlPageRead (init : InitId)
  -- frames of the management link
  | frameStart
  | frameEnd
deriving DecidableEq, Repr

end Sys2Proof
end

