-- ==== Sys2Proof/Machine/State.lean ====
section
/-! DEFINITION. The state of the QM16, block by block (section 0.3), as plain data, and its value after PWR_RESET. -/

namespace Sys2Proof.Machine

/-- The reasons the part stops with a fault: none. FAULT is a response code of the system port and a fault record is state
of the FL; neither stops the part (section 0.6.5, R153). -/
inductive Fault
deriving DecidableEq, Repr

/-- The reasons a command has no meaning. -/
inductive Refusal where
  /-- Raised by `exec` alone, for a row of the table that has no meaning yet; safe (the model stops). No arm raises it. -/
  | notModelled (mnemonic : String)
deriving DecidableEq, Repr

/-! ### Aperture Decoder -/

/-- The steering state (R114). -/
inductive Steering where
  | off
  | on
deriving DecidableEq, Repr

/-- The kind of an aperture entry (R117). -/
inductive ApertureKind where
  | queue
  | summary
  | merge
deriving DecidableEq, Repr

/-- The operation of a merge aperture (R117, R135). -/
inductive MergeOp where
  | set
  | clear
  | flip
  | add
  | cond
deriving DecidableEq, Repr

/-- An entry of the Aperture Table (R117). -/
structure Aperture where
  enabled    : Bool
  base       : Addr
  sizeExp    : Byte
  kind       : ApertureKind
  permitted  : Byte
  queue      : QueueId
  reported   : BitVec 16
  op         : MergeOp
  mask       : Word
  targetBase : Addr
deriving DecidableEq, Repr

/-- An entry after PWR_RESET: disabled, every field the value whose encoding is zero (R117). -/
def Aperture.zero : Aperture :=
  { enabled := false, base := 0#40, sizeExp := 0#8, kind := .queue, permitted := 0#8, queue := 0, reported := 0#16,
    op := .set, mask := 0#64, targetBase := 0#40 }

/-- The four quarters of a queue aperture (section 7.5). -/
inductive Window where
  | put
  | take
  | control
  | peek
deriving DecidableEq, Repr

/-- The cell length by its code: code c stands for 2^c words (section 13.3). -/
abbrev CellLen := Fin 6

/-- What the decode of a queue hit records (R121, R124): the queue, the quarter, the word index of the first beat (beat j
has that index plus j), the aperture index and the cell length used. -/
structure QueueAccess where
  queue    : QueueId
  window   : Window
  first    : Nat
  aperture : ApId
  cellLen  : CellLen
deriving DecidableEq, Repr

/-- The kinds of a fault record, in the order of section 13.4 (R152). -/
inductive FaultKind where
  | permission
  | boundary
  | misalign
  | wrongWay
  | disabled
  | noBinding
  | memory
  | arena
  | addPartial
  | denied
deriving DecidableEq, Repr

/-- The decode the AD gives a request at its acceptance and the request keeps (R121). -/
inductive Decoded where
  /-- Forwarded to memory unchanged (R130). -/
  | passThrough
  /-- Refused by the AD, with the fields its record will carry (R122). -/
  | refused (kind : FaultKind) (aperture : Option ApId) (queue : Option QueueId)
  /-- To the QE (R121). -/
  | queue (access : QueueAccess)
  /-- To be answered by the AD with the summary word over the copied reported-queue set (R121, R129). -/
  | summary (reported : BitVec 16) (aperture : ApId)
  /-- To the MU, with the operation, the mask and the translated start address copied from the entry (R121, R131). -/
  | merge (op : MergeOp) (mask : Word) (target : Addr) (aperture : ApId)
deriving DecidableEq, Repr

/-! ### System Port -/

/-- An accepted request with its decode (R157). -/
structure Accepted where
  req     : Request
  decoded : Decoded
deriving DecidableEq, Repr

/-- The response codes (section 0.6.5). -/
inductive RespCode where
  | ok
  | fail
  | fault
deriving DecidableEq, Repr

/-- A response: its initiator, its code, and for a READ one data beat per requested beat (R159). -/
structure Response where
  init : InitId
  code : RespCode
  data : List Word
deriving DecidableEq, Repr

/-! ### Queue Engine -/

/-- The state of a cell (R3). -/
inductive CellState where
  | free
  | opened
  | queued
  | taken
deriving DecidableEq, Repr

/-- A record of the Cell Table (R3). An absent field is `none`; bit i of the written-word set stands for word i. -/
structure Cell where
  state    : CellState
  owner    : Option QueueId
  origin   : Option QueueId
  sequence : Option (BitVec 16)
  written  : Option (BitVec 32)
  complete : Bool
  damaged  : Bool
  pins     : Nat
  inFlight : Nat
deriving DecidableEq, Repr

/-- A FREE record (R3). -/
def Cell.freed : Cell :=
  { state := .free, owner := none, origin := none, sequence := none, written := none, complete := false,
    damaged := false, pins := 0, inFlight := 0 }

/-- The overflow policies (R12, R71). -/
inductive Policy where
  | dropNew
  | displaceOldest
  | divert
  | hold
deriving DecidableEq, Repr

/-- The attention lines (R150). -/
inductive Line where
  | a
  | b
deriving DecidableEq, Repr

/-- One Bool for each of the six event flags: the flags of a queue (R144), or its event mask (R12). -/
structure EventSet where
  lost      : Bool
  underrun  : Bool
  watermark : Bool
  expired   : Bool
  diverted  : Bool
  ready     : Bool
deriving DecidableEq, Repr

/-- No flag. -/
def EventSet.none : EventSet :=
  { lost := false, underrun := false, watermark := false, expired := false, diverted := false, ready := false }

/-- The configuration fields of a Queue Context (R12). -/
structure QueueConfig where
  cellLen      : CellLen
  limit        : Nat
  policy       : Policy
  divertTarget : Option QueueId
  report       : Bool
  emptyPattern : Word
  takeWait     : BitVec 16
  putWait      : BitVec 16
  watermark    : Nat
  line         : Line
  eventMask    : EventSet
deriving DecidableEq, Repr

/-- The configuration after PWR_RESET (R12). -/
def QueueConfig.initial : QueueConfig :=
  { cellLen := 0, limit := 1, policy := .dropNew, divertTarget := none, report := false, emptyPattern := 0#64,
    takeWait := 0#16, putWait := 0#16, watermark := 0, line := .a, eventMask := EventSet.none }

/-- The states a queue rests in: ENABLED or DISABLED (R13). -/
inductive RestState where
  | disabled
  | enabled
deriving DecidableEq, Repr

/-- The queue state; FLUSHING remembers the prior state (R13). -/
inductive QueueState where
  | rest (r : RestState)
  | flushing (prior : RestState)
deriving DecidableEq, Repr

/-- A Queue Context (R12 to R17). -/
structure QueueCtx where
  config      : QueueConfig
  state       : QueueState
  committed   : List Nat
  openCount   : Nat
  nextSeq     : BitVec 16
  lost        : BitVec 16
  underrun    : BitVec 16
  expired     : BitVec 16
  divertedOut : BitVec 16
deriving DecidableEq, Repr

/-- A Queue Context after PWR_RESET (R12 to R17). -/
def QueueCtx.initial : QueueCtx :=
  { config := QueueConfig.initial, state := .rest .disabled, committed := [], openCount := 0, nextSeq := 0#16,
    lost := 0#16, underrun := 0#16, expired := 0#16, divertedOut := 0#16 }

/-- The state of a put binding, with the cell of an ACTIVE one (R26). -/
inductive PutState where
  | active (cell : Nat)
  | phantom
  | voided
deriving DecidableEq, Repr

/-- A put binding (R26). -/
structure PutBinding where
  init   : InitId
  origin : QueueId
  target : QueueId
  state  : PutState
deriving DecidableEq, Repr

/-- The state of a take binding, with the cell of an ACTIVE one (R49). -/
inductive TakeState where
  | active (cell : Nat)
  | voided
deriving DecidableEq, Repr

/-- A take binding (R49). -/
structure TakeBinding where
  init  : InitId
  queue : QueueId
  state : TakeState
deriving DecidableEq, Repr

/-! ### Wait Unit -/

/-- The kind of a held request (R89). -/
inductive HeldKind where
  | put
  | take
deriving DecidableEq, Repr

/-- An occupied wait slot (R89): the request as accepted, and its decode. -/
structure Slot where
  queue    : QueueId
  kind     : HeldKind
  init     : InitId
  req      : Request
  access   : QueueAccess
  deadline : BitVec 32
deriving DecidableEq, Repr

/-! ### Memory Port -/

/-- What a memory request of the QE does to its cell: a composition write, a put-window read, a take read or a peek
(R8, R9). The closing ones are marked (R37, R60). -/
inductive CellUse where
  | compose (closing : Bool)
  | putRead
  | take (closing : Bool)
  | peek
deriving DecidableEq, Repr

/-- A QE access in progress: its initiator, its cell, the queue a MEMORY record of it names, and the empty pattern as it
stood when the QE took the request (R50, R165; for a put-window read DEDUCED, log 23). -/
structure CellAccess where
  init    : InitId
  cell    : Nat
  queue   : QueueId
  use     : CellUse
  pattern : Word
deriving DecidableEq, Repr

/-- The block a memory request belongs to (R163). -/
inductive Owner where
  | passThrough (init : InitId)
  | cell (access : CellAccess)
  | mergeRead (init : InitId)
  | beatRead (init : InitId)
  | beatWrite (init : InitId)
deriving DecidableEq, Repr

/-- Whether a memory request is live, discarded by SYS_RESET (R166), or left outstanding by PWR_RESET, whose
acknowledgement changes no count (R25, R167). -/
inductive Fate where
  | live
  | discarded
  | dropped
deriving DecidableEq, Repr

/-- A memory request (R163). -/
structure MemReq where
  addr  : Addr
  body  : Body
  owner : Owner
  fate  : Fate
deriving DecidableEq, Repr

/-! ### Merge Unit -/

/-- The stage of a held lock entry (R137). -/
inductive LockStage where
  | reading
  | writing
deriving DecidableEq, Repr

/-- A held entry of the word lock set (R137). -/
structure Lock where
  word  : Addr
  init  : InitId
  stage : LockStage
deriving DecidableEq, Repr

/-- An access waiting on the MU: a whole memory request, or a merge beat (R138). -/
inductive Waiter where
  | access (r : MemReq)
  | beat (init : InitId) (word : Addr)
deriving DecidableEq, Repr

/-- How far the beat of a merge write has come: not yet at the lock set, waiting for it, holding its lock with its read
not issued, its read issued, its write issued (R137). -/
inductive BeatStage where
  | arriving
  | waiting
  | locked
  | reading
  | writing
deriving DecidableEq, Repr

/-- A merge write in progress: its beat and the stage of that beat (R134, R137). -/
structure MergeBeat where
  beat  : Nat
  stage : BeatStage
deriving DecidableEq, Repr

/-- A reservation latch (R132). -/
structure Latch where
  valid : Bool
  addr  : Addr
  value : Word
deriving DecidableEq, Repr

/-- A latch after PWR_RESET (R132). -/
def Latch.zero : Latch := { valid := false, addr := 0#40, value := 0#64 }

/-! ### Fault Log and Management Link Controller -/

/-- A fault record; an absent field is `none` (R152). -/
structure FaultRecord where
  kind     : FaultKind
  init     : Option InitId
  addr     : Option Addr
  aperture : Option ApId
  queue    : Option QueueId
  stamp    : BitVec 32
deriving DecidableEq, Repr

/-- The phases of a frame (R168). -/
inductive LinkPhase where
  | command
  | arguments
  | response
  | trailing
deriving DecidableEq, Repr

/-- The frame in progress (R168). `receiving` is a frame whose command has not been carried out: its command and argument
phases. `responding` is one whose command has been, with the bytes that remain to be sent, the status byte and then the reply
data: its response phase, and with no byte left its trailing phase (R170). A frame starts at an assertion of select alone, so
a select that PWR_RESET finds asserted stands `outside` any frame until it has been released (R168). -/
inductive Frame where
  | outside
  | receiving
  | responding (left : List Byte)
deriving DecidableEq, Repr

/-- The pending-command state (R172). The command is QUEUE_FLUSH and the final status DONE. -/
inductive PendingCmd where
  | idle
  | pending (queue : QueueId)
  | complete (queue : QueueId)
deriving DecidableEq, Repr

/-! ### The state -/

/-- The state of the part. `offers` and `responses` are the system port as the initiators see it, `select` the level of MSEL
and `mdoSent` the bits that MDO has carried in the response and trailing phases; `pending` is the queue of commands. -/
structure State where
  -- pins and System Port
  pwrReset      : Bool
  sysReset      : Bool
  offers        : Vector (List Request) 8
  channels      : Vector (List Accepted) 8
  taken         : Vector Bool 8
  responses     : List Response
  -- Aperture Decoder
  steering      : Steering
  apertures     : Vector Aperture 16
  -- Queue Engine
  arenaBase     : Addr
  poolSize      : Nat
  guardOn       : Bool
  cells         : List Cell
  freeList      : List Nat
  queues        : Vector QueueCtx 16
  putTable      : Vector (Option PutBinding) 16
  takeTable     : Vector (Option TakeBinding) 16
  drain         : Bool
  -- Wait Unit
  slots         : Vector (Option Slot) 8
  arrival       : List SlotId
  tickCount     : BitVec 32
  tickInterval  : Nat
  tickElapsed   : Nat
  -- Merge Unit
  locks         : List Lock
  waiting       : List Waiter
  merges        : Vector (Option MergeBeat) 8
  latches       : Vector Latch 8
  -- Memory Port
  issueQ        : List MemReq
  outstanding   : List MemReq
  -- Notification Unit
  flags         : Vector EventSet 16
  attnA         : Bool
  attnB         : Bool
  faultRouting  : Option Line
  -- Fault Log
  log           : List FaultRecord
  overflow      : BitVec 8
  -- Management Link Controller, with the level of MSEL and what MDO has sent
  select        : Bool
  frame         : Frame
  mdoSent       : List Bool
  pendingCmd    : PendingCmd
  -- the commands waiting, first in, first out
  pending       : List Instr
deriving DecidableEq, Repr

/-- The part right after PWR_RESET is released, with nothing offered, outstanding or pending. DESIGN CHOICE (log 4): both
reset pins are deasserted and select is released. -/
def State.reset : State :=
  { pwrReset := false, sysReset := false, offers := Vector.replicate 8 [], channels := Vector.replicate 8 [],
    taken := Vector.replicate 8 false, responses := [],
    steering := .off, apertures := Vector.replicate 16 Aperture.zero,
    arenaBase := 0#40, poolSize := 0, guardOn := false, cells := [], freeList := [],
    queues := Vector.replicate 16 QueueCtx.initial, putTable := Vector.replicate 16 none,
    takeTable := Vector.replicate 16 none, drain := false,
    slots := Vector.replicate 8 none, arrival := [], tickCount := 0#32, tickInterval := 1, tickElapsed := 0,
    locks := [], waiting := [], merges := Vector.replicate 8 none, latches := Vector.replicate 8 Latch.zero,
    issueQ := [], outstanding := [],
    flags := Vector.replicate 16 EventSet.none, attnA := false, attnB := false, faultRouting := none,
    log := [], overflow := 0#8, select := false, frame := .outside, mdoSent := [], pendingCmd := .idle, pending := [] }

end Sys2Proof.Machine
end

