-- ==== Sys2Proof/WellFormed.lean ====
section
/-! DEFINITION. Which commands are well formed: a request carries 1 to 16 beats (R156), memory returns one response beat
per beat of a request (R165), a merge beat is one beat (R137), and UNKNOWN_COMMAND carries a code that names no command
(section 13.1). Everything else about an operand is in its type, or is checked by the part itself (R181). -/

namespace Sys2Proof

/-- The beat count of a request (R156). -/
def Body.count : Body → Nat
  | .read n => n
  | .write bs => bs.length

/-- A request carries 1 to 16 beats (R156). -/
def Request.wf (r : Request) : Bool :=
  decide (1 ≤ r.body.count) && decide (r.body.count ≤ Config.mostBeats)

/-- Memory returns one response beat per beat of a request, so 1 to 16 (R156, R165). -/
def ackWf (beats : List MemBeat) : Bool :=
  decide (1 ≤ beats.length) && decide (beats.length ≤ Config.mostBeats)

/-- A merge beat is read by a one-beat read and written by a one-beat write (R137). -/
def beatAckWf (beats : List MemBeat) : Bool := decide (beats.length = 1)

/-- The command codes that name a command (section 13.1). -/
def commandCodes : List Byte :=
  [0x01#8, 0x02#8, 0x10#8, 0x11#8, 0x12#8, 0x13#8, 0x20#8, 0x21#8, 0x22#8, 0x23#8, 0x24#8, 0x25#8, 0x26#8, 0x27#8,
   0x30#8, 0x31#8, 0x32#8, 0x33#8, 0x34#8, 0x40#8, 0x41#8]

/-- A code that names no command (section 13.1). -/
def unknownCode (code : Byte) : Bool := !commandCodes.contains code

/-- The well-formed commands. -/
def Instr.wf : Instr → Bool
  | .requestAccept _ offer => match offer with
    | none => true
    | some r => r.wf
  | .passThroughAck bs => ackWf bs
  | .compositionWriteAck bs => ackWf bs
  | .closingWriteAck bs => ackWf bs
  | .putWindowReadAck bs => ackWf bs
  | .takeReadAck bs => ackWf bs
  | .closingReadAck bs => ackWf bs
  | .peekAck bs => ackWf bs
  | .mergeReadAck bs => ackWf bs
  | .mergeBeatReadAck bs => beatAckWf bs
  | .mergeBeatWriteAck bs => beatAckWf bs
  | .discardedAck bs => ackWf bs
  | .unknownCommand code => unknownCode code
  | .adRefusalAnswer _ => true
  | .passThrough _ => true
  | .putWindowWrite _ => true
  | .putWindowRead _ => true
  | .takeWindowRead _ => true
  | .peekRead _ => true
  | .abandon _ => true
  | .returnWord _ => true
  | .eventsWrite _ => true
  | .controlWordWrite _ => true
  | .mergeRead _ => true
  | .mergeWrite _ => true
  | .mergeBeatLock _ => true
  | .mergeBeatReadIssue _ => true
  | .lockWaiterRelease => true
  | .memoryPresent => true
  | .tickAdvance => true
  | .heldTakeExpiry _ => true
  | .heldPutExpiry _ => true
  | .heldPutGrant => true
  | .heldTakeService _ => true
  | .flushCompletion _ => true
  | .sysResetAssert => true
  | .sysResetRelease => true
  | .resetDrainEnd => true
  | .pwrResetAssert => true
  | .pwrResetRelease => true
  | .frameAbort => true
  | .responseCut => true
  | .identify => true
  | .status => true
  | .apertureRead _ => true
  | .apertureWrite _ _ => true
  | .apertureEnable _ => true
  | .apertureDisable _ => true
  | .queueConfigRead _ => true
  | .queueConfigWrite _ _ => true
  | .queueEnable _ => true
  | .queueDisable _ => true
  | .queueFlush _ => true
  | .queueStateRead _ => true
  | .countersClear _ => true
  | .eventsClear _ _ => true
  | .poolConfig _ _ _ => true
  | .tickConfig _ => true
  | .steerOn => true
  | .steerOff => true
  | .lineConfig _ => true
  | .faultPeek => true
  | .faultDrop => true
  | .summaryRead _ => true
  | .controlPageRead _ => true
  | .frameStart => true
  | .frameEnd => true

end Sys2Proof
end

