-- ==== Sys2Proof/Machine/Operands.lean ====
section
/-! DEFINITION. What the operands of the commands mean, before any state is looked at: the ranges of requests, the words a
queue access covers, the arithmetic of the merge operations, and the encodings of management arguments and of multi-byte
fields. -/

namespace Sys2Proof

/-! ### Requests and ranges -/

/-- Whether a body is that of a WRITE (R156). -/
def Body.isWrite : Body → Bool
  | .read _ => false
  | .write _ => true

/-- The data beats of a response that answers a READ without data of its own: one word `w` per requested beat; a WRITE is
answered with the code alone (R159). -/
def Body.fill (w : Word) : Body → List Word
  | .read n => List.replicate n w
  | .write _ => []

/-- The data beats of a response that carries what memory returned (R159, R161). -/
def Body.returned (beats : List MemBeat) : Body → List Word
  | .read _ => beats.map MemBeat.data
  | .write _ => []

/-- The data beats of a pass-through response: an erring beat carries zero (R162). -/
def Body.returnedOrZero (beats : List MemBeat) : Body → List Word
  | .read _ => beats.map (fun b => if b.error then 0#64 else b.data)
  | .write _ => []

/-- Whether memory returned an error on some beat (R165). -/
def anyError (beats : List MemBeat) : Bool := beats.any MemBeat.error

/-- Two byte ranges of the 40-bit address space, which wraps at its top, have a byte in common (R156, R164). -/
def rangesOverlap (a : Addr) (lenA : Nat) (b : Addr) (lenB : Nat) : Bool :=
  decide ((b - a).toNat < lenA) || decide ((a - b).toNat < lenB)

/-- The first word a range from `a` touches (R138). -/
def firstWord (a : Addr) : Addr := a &&& ~~~(7#40)

/-- The bytes of the words that `n` beats from `a` touch: a start that is no multiple of 8 touches one word more (R156). -/
def wordSpan (a : Addr) (n : Nat) : Nat := if a &&& 7#40 = 0#40 then 8 * n else 8 * n + 8

/-- `n` beats from `a` and `m` beats from `b` touch a common word (R138). -/
def shareWord (a : Addr) (n : Nat) (b : Addr) (m : Nat) : Bool :=
  rangesOverlap (firstWord a) (wordSpan a n) (firstWord b) (wordSpan b m)

/-- The address of beat j of a range (R156). -/
def beatAddr (a : Addr) (j : Nat) : Addr := a + BitVec.ofNat 40 (8 * j)

/-- Beat j of a write. A beat that does not exist reads as one with every strobe clear; no command asks for one. -/
def Body.beat (b : Body) (j : Nat) : WriteBeat :=
  match b with
  | .read _ => { data := 0#64, strobes := 0#8 }
  | .write bs => bs.getD j { data := 0#64, strobes := 0#8 }

namespace Machine

/-! ### Cell lengths and queue accesses -/

/-- The number of words L (section 13.3). -/
def wordsOf (c : CellLen) : Nat := 2 ^ c.val

/-- The size W of a quarter in bytes, max(64, 8 L) (R124). -/
def quarterOf (c : CellLen) : Nat := max 64 (8 * wordsOf c)

/-- The window in a quarter's place (section 7.5). -/
def Window.ofQuarter : Nat → Window
  | 0 => .put
  | 1 => .take
  | 2 => .control
  | _ => .peek

/-- The word indices of `n` beats from the first of the access (R124). -/
def QueueAccess.words (a : QueueAccess) (n : Nat) : List Nat := (List.range n).map (a.first + ·)

/-- The beats include word L−1: a closing write or read (R37, R60). -/
def QueueAccess.closing (a : QueueAccess) (n : Nat) : Bool :=
  (a.words n).contains (wordsOf a.cellLen - 1)

/-- The words of a composition write that join the written-word set: those whose beat has a strobe set (R6, R34). -/
def writtenBits (first : Nat) : List WriteBeat → BitVec 32
  | [] => 0#32
  | b :: bs => (if b.strobes = 0#8 then 0#32 else 1#32 <<< first) ||| writtenBits (first + 1) bs

/-- The written-word set that makes a message complete: every word 0 to L−1 (R6). -/
def allWords (c : CellLen) : BitVec 32 := BitVec.allOnes 32 >>> (32 - wordsOf c)

/-! ### Memory requests -/

/-- A memory request is a WRITE (R163). -/
def MemReq.isWrite (r : MemReq) : Bool := r.body.isWrite

/-- The beat count of a memory request (R163). -/
def MemReq.count (r : MemReq) : Nat := r.body.count

/-- Two memory requests overlap on bytes and at least one is a WRITE: the later of them is held (R164). -/
def MemReq.conflicts (r e : MemReq) : Bool :=
  rangesOverlap r.addr (8 * r.count) e.addr (8 * e.count) && (r.isWrite || e.isWrite)

/-- The request touches the word (R137, R138). -/
def MemReq.touches (r : MemReq) (word : Addr) : Bool := shareWord r.addr r.count word 1

/-- The initiator a memory request was made for. -/
def Owner.init : Owner → InitId
  | .passThrough i => i
  | .cell a => a.init
  | .mergeRead i => i
  | .beatRead i => i
  | .beatWrite i => i

/-- A waiting access overlaps a range in a common word (R138). -/
def Waiter.sharesWord (w : Waiter) (a : Addr) (n : Nat) : Bool :=
  match w with
  | .access r => shareWord r.addr r.count a n
  | .beat _ word => shareWord word 1 a n

/-! ### Merge arithmetic (R135) -/

/-- All ones in the bytes whose strobe is set (R135). -/
def strobeMask (strobes : Byte) : Word :=
  (List.range 8).foldl (fun m b => if strobes.getLsbD b then m ||| (0xFF#64 <<< (8 * b)) else m) 0#64

/-- The effective mask: the operation mask in the strobed bytes (R135). -/
def effectiveMask (p : Word) (strobes : Byte) : Word := p &&& strobeMask strobes

/-- The new value of a word, from the old value `o`, the written data `d` and the effective mask `m` (R135). -/
def mergeValue (op : MergeOp) (o d m : Word) : Word :=
  match op with
  | .set => o ||| (d &&& m)
  | .clear => o &&& ~~~(d &&& m)
  | .flip => o ^^^ (d &&& m)
  | .add => ((o + d) &&& m) ||| (o &&& ~~~m)
  | .cond => (d &&& m) ||| (o &&& ~~~m)

/-- The COND comparison: the latch is valid, names the word and holds its old value (R135). -/
def condHolds (latch : Latch) (word : Addr) (old : Word) : Bool :=
  latch.valid && decide (latch.addr = word) && decide (latch.value = old)

/-- A write of which some beat has fewer than eight strobes set (R134). -/
def partialStrobes : Body → Bool
  | .read _ => false
  | .write bs => bs.any (fun b => b.strobes != 0xFF#8)

/-! ### Multi-byte fields (section 13.1: least significant byte first) -/

/-- The low `n` bytes of a number, least significant first. -/
def bytesOfNat : Nat → Nat → List Byte
  | 0, _ => []
  | n + 1, v => BitVec.ofNat 8 v :: bytesOfNat n (v / 256)

/-- The number that bytes, least significant first, stand for. -/
def natOfBytes : List Byte → Nat
  | [] => 0
  | b :: bs => b.toNat + 256 * natOfBytes bs

/-- A field of `n` bytes. -/
def bytesOf {w : Nat} (n : Nat) (v : BitVec w) : List Byte := bytesOfNat n v.toNat

/-- A Bool as a byte, 00h or 01h. -/
def byteOfBool (b : Bool) : Byte := if b then 1#8 else 0#8

/-- A Bool as a bit at a place of a word. -/
def bitAt (b : Bool) (place : Nat) : Word := if b then 1#64 <<< place else 0#64

/-- A number as a field at a place of a word. -/
def fieldAt (v place : Nat) : Word := BitVec.ofNat 64 v <<< place

/-! ### Encodings of management arguments (R181, sections 13.1 to 13.3) -/

/-- An entry index or a queue number: 0 to 15. -/
def index16? (b : Byte) : Option (Fin 16) :=
  if h : b.toNat < 16 then some ⟨b.toNat, h⟩ else none

/-- The kind of an aperture entry. -/
def apertureKind? (b : Byte) : Option ApertureKind :=
  match b.toNat with
  | 0 => some .queue
  | 1 => some .summary
  | 2 => some .merge
  | _ => none

/-- The operation of an aperture entry. -/
def mergeOp? (b : Byte) : Option MergeOp :=
  match b.toNat with
  | 0 => some .set
  | 1 => some .clear
  | 2 => some .flip
  | 3 => some .add
  | 4 => some .cond
  | _ => none

/-- A one-byte switch: 00h off, 01h on. -/
def switch? (b : Byte) : Option Bool :=
  match b.toNat with
  | 0 => some false
  | 1 => some true
  | _ => none

/-- The fields of an aperture entry, disabled, when every field is well encoded (R181, section 13.2). -/
def apertureEntry? (im : ApertureImage) : Option Aperture := do
  let kind ← apertureKind? im.kind
  let queue ← index16? im.queue
  let op ← mergeOp? im.operation
  pure { enabled := false, base := im.base, sizeExp := im.sizeExp, kind := kind, permitted := im.permitted,
         queue := queue, reported := im.reported, op := op, mask := im.mask, targetBase := im.targetBase }

/-- The cell length code, 0 to 5. -/
def cellLen? (b : Byte) : Option CellLen :=
  if h : b.toNat < 6 then some ⟨b.toNat, h⟩ else none

/-- The Limit, 1 to 1024. -/
def limit? (v : BitVec 16) : Option Nat :=
  if 1 ≤ v.toNat ∧ v.toNat ≤ 1024 then some v.toNat else none

/-- The policy. -/
def policy? (b : Byte) : Option Policy :=
  match b.toNat with
  | 0 => some .dropNew
  | 1 => some .displaceOldest
  | 2 => some .divert
  | 3 => some .hold
  | _ => none

/-- The divert target: a queue, or FFh for none. -/
def divertTarget? (b : Byte) : Option (Option QueueId) :=
  if b = 0xFF#8 then some none else (index16? b).map some

/-- The Watermark, 0 to 1024. -/
def watermark? (v : BitVec 16) : Option Nat :=
  if v.toNat ≤ 1024 then some v.toNat else none

/-- The Attention line. -/
def line? (b : Byte) : Option Line :=
  match b.toNat with
  | 0 => some .a
  | 1 => some .b
  | _ => none

/-- The fault routing of LINE_CONFIG: none, A or B (section 13.1). -/
def routing? (b : Byte) : Option (Option Line) :=
  match b.toNat with
  | 0 => some none
  | 1 => some (some .a)
  | 2 => some (some .b)
  | _ => none

/-- The flags whose bits are set, bits 0 to 5 in the order of section 13.3. -/
def eventSetOf (b : Byte) : EventSet :=
  { lost := b.getLsbD 0, underrun := b.getLsbD 1, watermark := b.getLsbD 2, expired := b.getLsbD 3,
    diverted := b.getLsbD 4, ready := b.getLsbD 5 }

/-- The event mask: bits 6 and 7 must be zero. -/
def eventMask? (b : Byte) : Option EventSet :=
  if b.toNat < 64 then some (eventSetOf b) else none

/-- The selection byte of EVENTS_CLEAR: bits 5 to 7 must be zero (section 13.1). -/
def selection? (b : Byte) : Option EventSet :=
  if b.toNat < 32 then some (eventSetOf b) else none

/-- The configuration fields, when every field is well encoded (R181, section 13.3). -/
def queueConfig? (im : ConfigImage) : Option QueueConfig := do
  let cellLen ← cellLen? im.cellLen
  let limit ← limit? im.limit
  let policy ← policy? im.policy
  let divertTarget ← divertTarget? im.divertTarget
  let report ← switch? im.report
  let watermark ← watermark? im.watermark
  let line ← line? im.line
  let eventMask ← eventMask? im.eventMask
  pure { cellLen := cellLen, limit := limit, policy := policy, divertTarget := divertTarget, report := report,
         emptyPattern := im.emptyPattern, takeWait := im.takeWait, putWait := im.putWait, watermark := watermark,
         line := line, eventMask := eventMask }

/-- N is 0, or 16 to 1024 in a multiple of 16 (R1, R175). -/
def poolSize? (v : BitVec 16) : Option Nat :=
  if v.toNat = 0 ∨ (16 ≤ v.toNat ∧ v.toNat ≤ Config.largestPool ∧ v.toNat % 16 = 0) then some v.toNat else none

/-- The arena base is a multiple of 256 KiB: bits 0 to 17 are zero (R1, section 13.1). -/
def arenaBase? (a : Addr) : Option Addr := if a.toNat % 2 ^ 18 = 0 then some a else none

end Machine

end Sys2Proof
end

