-- ==== Sys2Proof/Decode.lean ====
section
/-! DEFINITION. From bits to commands. The rows of spec/opcode_table.json give no bits, so no word spells a command by the
table. The commands of the management link have bytes of their own (sections 11.1 and 13.1 to 13.3): `decodeFrame` reads
the command a frame carries, and `encodeFrame` writes its bytes. -/

namespace Sys2Proof

/-- The command that a word spells by the table's bits: no row of the table gives bits. -/
def decodeTableWord (_nbits _w : Nat) : Option Instr := none

/-! ### Bits to bytes (R168) -/

/-- A byte from eight bits, most significant bit first (R168). -/
def byteOfBits (bits : List Bool) : Byte := BitVec.ofNat 8 (bits.foldl (fun n b => 2 * n + b.toNat) 0)

/-- The complete bytes of at most `fuel` bytes of a frame; the bits of a byte that is not complete are not held over
(R168). -/
def bytesOfBits : Nat → List Bool → List Byte
  | 0, _ => []
  | n + 1, bits => if bits.length < 8 then [] else byteOfBits (bits.take 8) :: bytesOfBits n (bits.drop 8)

/-! ### Frames to commands (R168, R169, section 13.1) -/

/-- The argument bytes of a command code; none for a code that names no command (section 13.1). -/
def argumentBytes (code : Byte) : Option Nat :=
  match code.toNat with
  | 0x01 => some 0
  | 0x02 => some 0
  | 0x10 => some 1
  | 0x11 => some 26
  | 0x12 => some 1
  | 0x13 => some 1
  | 0x20 => some 1
  | 0x21 => some 23
  | 0x22 => some 1
  | 0x23 => some 1
  | 0x24 => some 1
  | 0x25 => some 1
  | 0x26 => some 1
  | 0x27 => some 2
  | 0x30 => some 8
  | 0x31 => some 2
  | 0x32 => some 0
  | 0x33 => some 0
  | 0x34 => some 1
  | 0x40 => some 0
  | 0x41 => some 0
  | _ => none

/-- A field of `n` bytes from byte `k` of the argument, least significant byte first (section 13.1). -/
def argField (args : List Byte) (k n w : Nat) : BitVec w := BitVec.ofNat w (Machine.natOfBytes ((args.drop k).take n))

/-- The aperture image of an argument whose byte 0 is the entry index (section 13.2). -/
def imageOfArgs (args : List Byte) : ApertureImage :=
  { base := argField args 1 5 40, sizeExp := argField args 6 1 8, kind := argField args 7 1 8,
    permitted := argField args 8 1 8, queue := argField args 9 1 8, reported := argField args 10 2 16,
    operation := argField args 12 1 8, mask := argField args 13 8 64, targetBase := argField args 21 5 40 }

/-- The queue configuration of an argument whose byte 0 is the queue (section 13.3). -/
def configOfArgs (args : List Byte) : ConfigImage :=
  { cellLen := argField args 1 1 8, limit := argField args 2 2 16, policy := argField args 4 1 8,
    divertTarget := argField args 5 1 8, report := argField args 6 1 8, emptyPattern := argField args 7 8 64,
    takeWait := argField args 15 2 16, putWait := argField args 17 2 16, watermark := argField args 19 2 16,
    line := argField args 21 1 8, eventMask := argField args 22 1 8 }

/-- The command of a code with its argument bytes (section 13.1). -/
def commandOf (code : Byte) (args : List Byte) : Instr :=
  let b := argField args 0 1 8
  match code.toNat with
  | 0x01 => .identify
  | 0x02 => .status
  | 0x10 => .apertureRead b
  | 0x11 => .apertureWrite b (imageOfArgs args)
  | 0x12 => .apertureEnable b
  | 0x13 => .apertureDisable b
  | 0x20 => .queueConfigRead b
  | 0x21 => .queueConfigWrite b (configOfArgs args)
  | 0x22 => .queueEnable b
  | 0x23 => .queueDisable b
  | 0x24 => .queueFlush b
  | 0x25 => .queueStateRead b
  | 0x26 => .countersClear b
  | 0x27 => .eventsClear b (argField args 1 1 8)
  | 0x30 => .poolConfig (argField args 0 5 40) (argField args 5 2 16) (argField args 7 1 8)
  | 0x31 => .tickConfig (argField args 0 2 16)
  | 0x32 => .steerOn
  | 0x33 => .steerOff
  | 0x34 => .lineConfig b
  | 0x40 => .faultPeek
  | 0x41 => .faultDrop
  | _ => .unknownCommand code

/-- The command that the bytes of a frame carry: a code that names no command at its command byte, another once its last
argument byte is there, `none` before that. Bytes after it are ignored (R169 to R171). -/
def decodeFrame : List Byte → Option Instr
  | [] => none
  | code :: args =>
    match argumentBytes code with
    | none => some (commandOf code [])
    | some n => if args.length < n then none else some (commandOf code (args.take n))

/-- The argument bytes of APERTURE_WRITE (section 13.2). -/
def imageBytes (im : ApertureImage) : List Byte :=
  Machine.bytesOf 5 im.base ++ [im.sizeExp, im.kind, im.permitted, im.queue] ++ Machine.bytesOf 2 im.reported ++
    [im.operation] ++ Machine.bytesOf 8 im.mask ++ Machine.bytesOf 5 im.targetBase

/-- The argument bytes of QUEUE_CONFIG_WRITE (section 13.3). -/
def configBytes (im : ConfigImage) : List Byte :=
  [im.cellLen] ++ Machine.bytesOf 2 im.limit ++ [im.policy, im.divertTarget, im.report] ++
    Machine.bytesOf 8 im.emptyPattern ++ Machine.bytesOf 2 im.takeWait ++ Machine.bytesOf 2 im.putWait ++
    Machine.bytesOf 2 im.watermark ++ [im.line, im.eventMask]

/-- The bytes of the frame that carries a link command; none for the other commands. -/
def encodeFrame : Instr → Option (List Byte)
  | .identify => some [0x01#8]
  | .status => some [0x02#8]
  | .apertureRead e => some [0x10#8, e]
  | .apertureWrite e im => some (0x11#8 :: e :: imageBytes im)
  | .apertureEnable e => some [0x12#8, e]
  | .apertureDisable e => some [0x13#8, e]
  | .queueConfigRead q => some [0x20#8, q]
  | .queueConfigWrite q im => some (0x21#8 :: q :: configBytes im)
  | .queueEnable q => some [0x22#8, q]
  | .queueDisable q => some [0x23#8, q]
  | .queueFlush q => some [0x24#8, q]
  | .queueStateRead q => some [0x25#8, q]
  | .countersClear q => some [0x26#8, q]
  | .eventsClear q sel => some [0x27#8, q, sel]
  | .poolConfig base n g => some (0x30#8 :: (Machine.bytesOf 5 base ++ Machine.bytesOf 2 n ++ [g]))
  | .tickConfig v => some (0x31#8 :: Machine.bytesOf 2 v)
  | .steerOn => some [0x32#8]
  | .steerOff => some [0x33#8]
  | .lineConfig r => some [0x34#8, r]
  | .faultPeek => some [0x40#8]
  | .faultDrop => some [0x41#8]
  | .unknownCommand code => some [code]
  | .requestAccept _ _ => none
  | .adRefusalAnswer _ => none
  | .passThrough _ => none
  | .passThroughAck _ => none
  | .putWindowWrite _ => none
  | .compositionWriteAck _ => none
  | .closingWriteAck _ => none
  | .putWindowRead _ => none
  | .putWindowReadAck _ => none
  | .takeWindowRead _ => none
  | .takeReadAck _ => none
  | .closingReadAck _ => none
  | .peekRead _ => none
  | .peekAck _ => none
  | .abandon _ => none
  | .returnWord _ => none
  | .eventsWrite _ => none
  | .controlWordWrite _ => none
  | .mergeRead _ => none
  | .mergeReadAck _ => none
  | .mergeWrite _ => none
  | .mergeBeatLock _ => none
  | .mergeBeatReadIssue _ => none
  | .mergeBeatReadAck _ => none
  | .mergeBeatWriteAck _ => none
  | .lockWaiterRelease => none
  | .memoryPresent => none
  | .discardedAck _ => none
  | .tickAdvance => none
  | .heldTakeExpiry _ => none
  | .heldPutExpiry _ => none
  | .heldPutGrant => none
  | .heldTakeService _ => none
  | .flushCompletion _ => none
  | .sysResetAssert => none
  | .sysResetRelease => none
  | .resetDrainEnd => none
  | .pwrResetAssert => none
  | .pwrResetRelease => none
  | .frameAbort => none
  | .responseCut => none
  | .summaryRead _ => none
  | .controlPageRead _ => none
  | .frameStart => none
  | .frameEnd => none

end Sys2Proof
end

