-- ==== Sys2Proof/Machine/Tables.lean ====
section
/-! DEFINITION. Reading and writing the tables of the part: cell records, Queue Contexts, binding tables, channels, wait
slots, and the quantities the QE derives from them (R19). -/

namespace Sys2Proof.Machine

/-! ### Cells and queues -/

/-- The record of cell c; a number outside the pool reads as FREE (R3). -/
def State.cell (s : State) (c : Nat) : Cell := s.cells.getD c Cell.freed

/-- Replace the record of cell c. -/
def State.setCell (s : State) (c : Nat) (x : Cell) : State := { s with cells := s.cells.set c x }

/-- Change the record of cell c. -/
def State.updCell (s : State) (c : Nat) (f : Cell → Cell) : State := s.setCell c (f (s.cell c))

/-- The context of a queue (R12). -/
def State.queue (s : State) (q : QueueId) : QueueCtx := s.queues[q]

/-- Replace the context of a queue. -/
def State.setQueue (s : State) (q : QueueId) (x : QueueCtx) : State := { s with queues := s.queues.set q x }

/-- Change the context of a queue. -/
def State.updQueue (s : State) (q : QueueId) (f : QueueCtx → QueueCtx) : State := s.setQueue q (f (s.queue q))

/-- The queue is FLUSHING (R13). -/
def QueueCtx.isFlushing (x : QueueCtx) : Bool :=
  match x.state with
  | .rest _ => false
  | .flushing _ => true

/-! ### Derived quantities (R19) -/

/-- The cells of the committed list in a state, in list order. -/
def State.committedIn (s : State) (q : QueueId) (k : CellState) : List Nat :=
  (s.queue q).committed.filter (fun c => decide ((s.cell c).state = k))

/-- Available count: the QUEUED cells of the committed list. -/
def State.available (s : State) (q : QueueId) : Nat := (s.committedIn q .queued).length

/-- Taken count: the TAKEN cells of the committed list. -/
def State.takenCount (s : State) (q : QueueId) : Nat := (s.committedIn q .taken).length

/-- Oldest available cell: the first QUEUED cell in committed-list order. -/
def State.oldest (s : State) (q : QueueId) : Option Nat :=
  (s.queue q).committed.find? (fun c => decide ((s.cell c).state = .queued))

/-- Cell c is retired and held out of the Free List by a pin: TAKEN, owned by the queue, in no list (R9, R61). -/
def State.heldOut (s : State) (q : QueueId) (c : Nat) (x : Cell) : Bool :=
  decide (x.state = .taken) && decide (x.owner = some q) && !(s.queue q).committed.contains c

/-- The number of retired cells of the queue held out of the Free List by a pin (R9). -/
def State.heldOutCount (s : State) (q : QueueId) : Nat :=
  s.cells.zipIdx.countP (fun p => s.heldOut q p.2 p.1)

/-- Holding: open count plus committed-list length plus the cells held out by a pin. -/
def State.holding (s : State) (q : QueueId) : Nat :=
  (s.queue q).openCount + (s.queue q).committed.length + s.heldOutCount q

/-- Full: holding at or above the Limit, or the Free List empty. -/
def State.full (s : State) (q : QueueId) : Bool :=
  decide ((s.queue q).config.limit ≤ s.holding q) || s.freeList.isEmpty

/-- Word w of cell c in memory (R1). -/
def State.wordAddr (s : State) (c w : Nat) : Addr := s.arenaBase + BitVec.ofNat 40 (256 * c + 8 * w)

/-! ### Binding tables -/

/-- The entry keyed by (initiator, origin queue), of the Put Binding Table (R26, R27). -/
def State.putEntry (s : State) (i : InitId) (q : QueueId) : Option EntryId :=
  upTo16.find? (fun e => match s.putTable[e] with
    | some b => decide (b.init = i) && decide (b.origin = q)
    | none => false)

/-- The put binding keyed by (initiator, origin queue), with its entry. -/
def State.putBinding (s : State) (i : InitId) (q : QueueId) : Option (EntryId × PutBinding) :=
  match s.putEntry i q with
  | some e => s.putTable[e].map (fun b => (e, b))
  | none => none

/-- The lowest-numbered free entry of the Put Binding Table (R28). -/
def State.freePut (s : State) : Option EntryId := upTo16.find? (fun e => s.putTable[e].isNone)

/-- Write an entry of the Put Binding Table. -/
def State.setPut (s : State) (e : EntryId) (b : Option PutBinding) : State := { s with putTable := s.putTable.set e b }

/-- The entry keyed by (initiator, queue), of the Take Binding Table (R49, R50). -/
def State.takeEntry (s : State) (i : InitId) (q : QueueId) : Option EntryId :=
  upTo16.find? (fun e => match s.takeTable[e] with
    | some b => decide (b.init = i) && decide (b.queue = q)
    | none => false)

/-- The take binding keyed by (initiator, queue), with its entry. -/
def State.takeBinding (s : State) (i : InitId) (q : QueueId) : Option (EntryId × TakeBinding) :=
  match s.takeEntry i q with
  | some e => s.takeTable[e].map (fun b => (e, b))
  | none => none

/-- The lowest-numbered free entry of the Take Binding Table (R51). -/
def State.freeTake (s : State) : Option EntryId := upTo16.find? (fun e => s.takeTable[e].isNone)

/-- Write an entry of the Take Binding Table. -/
def State.setTake (s : State) (e : EntryId) (b : Option TakeBinding) : State :=
  { s with takeTable := s.takeTable.set e b }

/-- The number of put bindings for which the test holds. -/
def State.countPut (s : State) (p : PutBinding → Bool) : Nat := s.putTable.toList.countP (fun b => b.any p)

/-- The number of take bindings for which the test holds. -/
def State.countTake (s : State) (p : TakeBinding → Bool) : Nat := s.takeTable.toList.countP (fun b => b.any p)

/-! ### Channels -/

/-- The request at the head of an initiator's channel (R158). -/
def State.head? (s : State) (i : InitId) : Option Accepted := s.channels[i].head?

/-- The current request of an initiator, when its block has not taken it yet (R158). -/
def State.current (s : State) (i : InitId) : Option Accepted := if s.taken[i] then none else s.head? i

/-- The current request of an initiator, when its block is performing it (R158). -/
def State.performing (s : State) (i : InitId) : Option Accepted := if s.taken[i] then s.head? i else none

/-- The block of an initiator's current request takes it (R158). -/
def State.take (s : State) (i : InitId) : State := { s with taken := s.taken.set i true }

/-! ### Wait slots -/

/-- The lowest-numbered free slot (R89). -/
def State.freeSlot (s : State) : Option SlotId := upTo8.find? (fun k => s.slots[k].isNone)

/-- A request leaves its slot: the slot is free and leaves the arrival list (R89). -/
def State.vacate (s : State) (k : SlotId) : State :=
  { s with slots := s.slots.set k none, arrival := s.arrival.filter (fun j => decide (j ≠ k)) }

/-- The first held request in arrival order for which the test holds (R89). -/
def State.findHeld (s : State) (p : Slot → Bool) : Option (SlotId × Slot) :=
  s.arrival.findSome? (fun k => match s.slots[k] with
    | some x => if p x then some (k, x) else none
    | none => none)

/-- The number of held requests for which the test holds (R177). -/
def State.countHeld (s : State) (p : Slot → Bool) : Nat := s.slots.toList.countP (fun x => x.any p)

/-! ### Merge writes and latches -/

/-- Set the merge write in progress of an initiator. -/
def State.setMerge (s : State) (i : InitId) (m : Option MergeBeat) : State := { s with merges := s.merges.set i m }

/-- Set the reservation latch of an initiator. -/
def State.setLatch (s : State) (i : InitId) (l : Latch) : State := { s with latches := s.latches.set i l }

end Sys2Proof.Machine
end

