-- ==== Sys2Proof/Machine/Flags.lean ====
section
/-! DEFINITION. The Notification Unit and the Fault Log: the event flags and counters an event raises (R17, R146), READY and
the attention lines (R145, R150), and the appending of fault records (R153). -/

namespace Sys2Proof.Machine

/-! ### Event flags -/

/-- Change the flags of a queue. -/
def State.updFlags (s : State) (q : QueueId) (f : EventSet → EventSet) : State :=
  { s with flags := s.flags.set q (f s.flags[q]) }

/-- A queue loses a message: its lost counter and LOST (R17, R146). -/
def State.raiseLost (s : State) (q : QueueId) : State :=
  (s.updQueue q (fun x => { x with lost := satInc x.lost })).updFlags q (fun f => { f with lost := true })

/-- A take is answered empty: the underrun counter and UNDERRUN (R17, R146). -/
def State.raiseUnderrun (s : State) (q : QueueId) : State :=
  (s.updQueue q (fun x => { x with underrun := satInc x.underrun })).updFlags q (fun f => { f with underrun := true })

/-- A held request reaches its deadline: the expired counter and EXPIRED (R17, R146). -/
def State.raiseExpired (s : State) (q : QueueId) : State :=
  (s.updQueue q (fun x => { x with expired := satInc x.expired })).updFlags q (fun f => { f with expired := true })

/-- A divert target accepts a composition of this origin: the diverted-out counter and DIVERTED (R17, R146). -/
def State.raiseDiverted (s : State) (q : QueueId) : State :=
  (s.updQueue q (fun x => { x with divertedOut := satInc x.divertedOut })).updFlags q
    (fun f => { f with diverted := true })

/-- A commit has brought the committed list to its length: WATERMARK is set when that is the Watermark (R147). -/
def State.checkWatermark (s : State) (q : QueueId) : State :=
  if 0 < (s.queue q).config.watermark ∧ (s.queue q).committed.length = (s.queue q).config.watermark then
    s.updFlags q (fun f => { f with watermark := true })
  else s

/-- Clear the sticky flags that a selection names; READY cannot be selected (R145, R148, R149). -/
def EventSet.clear (f sel : EventSet) : EventSet :=
  { lost := f.lost && !sel.lost, underrun := f.underrun && !sel.underrun, watermark := f.watermark && !sel.watermark,
    expired := f.expired && !sel.expired, diverted := f.diverted && !sel.diverted, ready := f.ready }

/-- The flags as the bits of the event mask (section 13.3). -/
def EventSet.toNat (f : EventSet) : Nat :=
  f.lost.toNat + 2 * f.underrun.toNat + 4 * f.watermark.toNat + 8 * f.expired.toNat + 16 * f.diverted.toNat +
    32 * f.ready.toNat

/-- The sticky flags as the bits of the EVENTS word (section 13.5). -/
def EventSet.stickyNat (f : EventSet) : Nat :=
  f.lost.toNat + 2 * f.underrun.toNat + 4 * f.watermark.toNat + 8 * f.expired.toNat + 16 * f.diverted.toNat

/-- Some flag of the queue is set and enabled (R150). -/
def EventSet.drives (f mask : EventSet) : Bool :=
  (f.lost && mask.lost) || (f.underrun && mask.underrun) || (f.watermark && mask.watermark) ||
    (f.expired && mask.expired) || (f.diverted && mask.diverted) || (f.ready && mask.ready)

/-! ### READY and the lines -/

/-- READY of every queue as its available count has it at the end of the step (R145). -/
def State.readyFlags (s : State) : Vector EventSet 16 :=
  tabulate16 (fun q => { s.flags[q] with ready := decide (0 < s.available q) })

/-- The level of an attention line (R150). -/
def State.lineLevel (s : State) (l : Line) : Bool :=
  upTo16.any (fun q => decide ((s.queue q).config.line = l) && (s.flags[q]).drives (s.queue q).config.eventMask) ||
    (!s.log.isEmpty && decide (s.faultRouting = some l))

/-- The NU at the end of a step: READY of every queue, then both lines (R145, R150). -/
def State.notify (s : State) : State :=
  let t := { s with flags := s.readyFlags }
  { t with attnA := t.lineLevel .a, attnB := t.lineLevel .b }

/-- The end of a step that may have changed an input of the NU. -/
def finish (s : State) : Host.Outcome State Fault Refusal := .next s.notify

/-! ### Fault records -/

/-- The FL appends a record, or counts it in the overflow (R153). -/
def State.appendRecord (s : State) (r : FaultRecord) : State :=
  if s.log.length < Config.logDepth then { s with log := s.log ++ [r] }
  else { s with overflow := satInc s.overflow }

/-- The record of a faulting request, stamped with the tick count (R152). -/
def State.record (s : State) (kind : FaultKind) (i : InitId) (addr : Addr) (aperture : Option ApId)
    (queue : Option QueueId) : State :=
  s.appendRecord { kind := kind, init := some i, addr := some addr, aperture := aperture, queue := queue,
                   stamp := s.tickCount }

/-- The record of a refused management command (R152, R171). -/
def State.recordDenied (s : State) (queue : Option QueueId) : State :=
  s.appendRecord { kind := .denied, init := none, addr := none, aperture := none, queue := queue,
                   stamp := s.tickCount }

end Sys2Proof.Machine
end

