-- ==== Sys2Proof/Machine/Steering.lean ====
section
/-! DEFINITION. The decode the Aperture Decoder makes at the acceptance of a request (sections 7.3 to 7.5): the lookup, the
checks in their order, and the arena guard. -/

namespace Sys2Proof.Machine

/-- The size of an entry's range in bytes (R117). -/
def Aperture.size (a : Aperture) : Nat := 2 ^ a.sizeExp.toNat

/-- The offset of an address from the entry's base. -/
def Aperture.offset (a : Aperture) (addr : Addr) : Nat := addr.toNat - a.base.toNat

/-- The entry's range contains the address (R117, R121). -/
def Aperture.covers (a : Aperture) (addr : Addr) : Bool :=
  decide (a.base.toNat ≤ addr.toNat) && decide (a.offset addr < a.size)

/-- The entry hit: the lowest-numbered enabled entry whose range contains the start address (R121). -/
def State.hit (s : State) (addr : Addr) : Option ApId :=
  upTo16.find? (fun k => s.apertures[k].enabled && s.apertures[k].covers addr)

/-- The arena guard applies: steering is ON, N is above 0 and the guard enable is on (R123). -/
def State.guardApplies (s : State) : Bool := decide (s.steering = .on) && decide (0 < s.poolSize) && s.guardOn

/-- The range of `n` beats from an address overlaps the arena (R1, R123). -/
def State.inArena (s : State) (addr : Addr) (n : Nat) : Bool :=
  rangesOverlap addr (8 * n) s.arenaBase (256 * s.poolSize)

/-- The size of a QUEUE entry that suits its queue's cell length: 4 W (R119, R124). -/
def suitedSize (c : CellLen) : Nat := 4 * quarterOf c

/-- The access of a queue hit, when its beats lie in one quarter and outside slack (R124, R125). -/
def queueAccess? (a : Aperture) (k : ApId) (c : CellLen) (addr : Addr) (n : Nat) : Option QueueAccess :=
  let w := quarterOf c
  let off := a.offset addr
  let access : QueueAccess :=
    { queue := a.queue, window := Window.ofQuarter (off / w), first := off % w / 8, aperture := k, cellLen := c }
  if (off + 8 * (n - 1)) / w = off / w ∧ (access.window = .control ∨ access.first + n ≤ wordsOf c) then some access
  else none

/-- The decode of a queue hit that has passed checks 1 and 2: size, boundary and slack, direction (R121, R124, R125). -/
def decodeQueue (a : Aperture) (k : ApId) (c : CellLen) (r : Request) : Decoded :=
  if a.size ≠ suitedSize c then .refused .boundary (some k) (some a.queue)
  else if a.size < a.offset r.addr + 8 * r.body.count then .refused .boundary (some k) (some a.queue)
  else match queueAccess? a k c r.addr r.body.count with
    | none => .refused .boundary (some k) (some a.queue)
    | some access =>
      if r.body.isWrite && (decide (access.window = .take) || decide (access.window = .peek)) then
        .refused .wrongWay (some k) (some a.queue)
      else .queue access

/-- The decode of a summary hit that has passed checks 1 and 2 (R121, R129). -/
def decodeSummary (a : Aperture) (k : ApId) (r : Request) : Decoded :=
  if a.size < a.offset r.addr + 8 * r.body.count then .refused .boundary (some k) none
  else if r.body.isWrite then .refused .wrongWay (some k) none
  else .summary a.reported k

/-- The decode of a merge hit that has passed checks 1 and 2 (R121, R123, R131). -/
def decodeMerge (s : State) (a : Aperture) (k : ApId) (r : Request) : Decoded :=
  let target := r.addr - a.base + a.targetBase
  if a.size < a.offset r.addr + 8 * r.body.count then .refused .boundary (some k) none
  else if s.guardApplies && s.inArena target r.body.count then .refused .arena (some k) none
  else .merge a.op a.mask target k

/-- The queue a record of a refused hit names: that of a QUEUE entry (R122). -/
def Aperture.recordQueue (a : Aperture) : Option QueueId :=
  match a.kind with
  | .queue => some a.queue
  | .summary => none
  | .merge => none

/-- The checks of a hit, in order (R121). -/
def decodeHit (s : State) (i : InitId) (k : ApId) (r : Request) : Decoded :=
  let a := s.apertures[k]
  if !a.permitted.getLsbD i.val then .refused .permission (some k) a.recordQueue
  else if r.addr &&& 7#40 ≠ 0#40 then .refused .misalign (some k) a.recordQueue
  else match a.kind with
    | .queue => decodeQueue a k (s.queue a.queue).config.cellLen r
    | .summary => decodeSummary a k r
    | .merge => decodeMerge s a k r

/-- The decode of a request at its acceptance (R114, R121, R123). -/
def decodeRequest (s : State) (i : InitId) (r : Request) : Decoded :=
  match s.steering with
  | .off => .passThrough
  | .on =>
    match s.hit r.addr with
    | some k => decodeHit s i k r
    | none => if s.guardApplies && s.inArena r.addr r.body.count then .refused .arena none none else .passThrough

end Sys2Proof.Machine
end

