-- ==== Sys2Proof/Machine/Ops.lean ====
section
/-! DEFINITION. The shared operations of the part: the SP's acceptance and answering (R157 to R159), the MP's issue,
presentation and acknowledgement (R163 to R165), the MU's lock test and the settling of its waiting list (R138, R139), and
the QE's and WU's work on cells, bindings and held requests (R10, R11, R33, R57, R92, R95, R111). -/

namespace Sys2Proof.Machine

/-! ### System Port -/

/-- The SP takes offers: neither reset is asserted (R166, R167). -/
def State.accepting (s : State) : Bool := !s.pwrReset && !s.sysReset

/-- The SP takes the oldest waiting offer of an initiator, when its channel holds fewer than four requests: the AD decodes
it and it joins the channel's tail (R157). -/
def acceptOffer (i : InitId) (s : State) : State :=
  if s.accepting && decide (s.channels[i].length < Config.channelDepth) then
    match s.offers[i] with
    | [] => s
    | r :: rest =>
      { s with offers := s.offers.set i rest,
               channels := s.channels.set i (s.channels[i] ++ [{ req := r, decoded := decodeRequest s i r }]) }
  else s

/-- An initiator offers a request; a waiting offer stays with it until accepted (R157). -/
def offerRequest (i : InitId) (r : Request) (s : State) : State :=
  { s with offers := s.offers.set i (s.offers[i] ++ [r]) }

/-- The response of an initiator's current request leaves: the request is removed from the channel, the next one becomes
current, and a waiting offer may be accepted (R158, R159). Each channel sends its own responses, and the order in which
`responses` lists those of one step, to different initiators, is the model's (DESIGN CHOICE, log 28). -/
def respond (i : InitId) (code : RespCode) (data : List Word) (s : State) : State :=
  acceptOffer i
    { s with channels := s.channels.set i s.channels[i].tail, taken := s.taken.set i false,
             responses := s.responses ++ [{ init := i, code := code, data := data }] }

/-- Answer FAULT with a record in the same step (R153, R159). -/
def respondFault (kind : FaultKind) (i : InitId) (addr : Addr) (aperture : Option ApId) (queue : Option QueueId)
    (data : List Word) (s : State) : State :=
  respond i .fault data (s.record kind i addr aperture queue)

/-! ### Memory Port -/

/-- The earliest request of the issue queue that the overlap hold allows, and the queue without it; `before` holds the
outstanding requests and the earlier requests of the issue queue (R163, R164). -/
def pickAllowed (before : List MemReq) : List MemReq → Option (MemReq × List MemReq)
  | [] => none
  | r :: rest =>
    if before.any (fun e => r.conflicts e) then
      match pickAllowed (before ++ [r]) rest with
      | some (x, rest') => some (x, r :: rest')
      | none => none
    else some (r, rest)

/-- The MP presents the earliest allowed request, when fewer than 16 are outstanding (R163). -/
def present (s : State) : State :=
  if s.outstanding.length < Config.outstandingLimit then
    match pickAllowed s.outstanding s.issueQ with
    | some (r, rest) => { s with issueQ := rest, outstanding := s.outstanding ++ [r] }
    | none => s
  else s

/-- A memory request is issued: it joins the issue queue's tail, and the MP presents at once what it may (R163). -/
def issue (r : MemReq) (s : State) : State := present { s with issueQ := s.issueQ ++ [r] }

/-- The request whose acknowledgement these beats complete: the head of the outstanding list, one beat per beat (R165). -/
def State.acknowledged (s : State) (beats : List MemBeat) : Option MemReq :=
  match s.outstanding with
  | [] => none
  | r :: _ => if beats.length = r.count then some r else none

/-- The same, when the request is live (R166). -/
def State.ackLive (s : State) (beats : List MemBeat) : Option MemReq :=
  match s.acknowledged beats with
  | some r => if r.fate = .live then some r else none
  | none => none

/-- The acknowledged request leaves the outstanding list, and the earliest allowed request is presented in that step
(R163, R165). -/
def retireHead (s : State) : State := present { s with outstanding := s.outstanding.tail }

/-! ### Merge Unit: the lock test -/

/-- The range touches a locked word or a word of an earlier waiter (R138). -/
def blocked (locks : List Lock) (earlier : List Waiter) (a : Addr) (n : Nat) : Bool :=
  locks.any (fun l => shareWord a n l.word 1) || earlier.any (fun w => w.sharesWord a n)

/-- A block hands an access over: it waits on the MU, or is issued to the MP at once (R138, R163). -/
def handOver (r : MemReq) (s : State) : State :=
  if blocked s.locks s.waiting r.addr r.count then { s with waiting := s.waiting ++ [.access r] } else issue r s

/-- A merge beat may take its lock: an entry is free, its word is not locked, no earlier waiter overlaps it (R137). -/
def mayLock (locks : List Lock) (earlier : List Waiter) (word : Addr) : Bool :=
  decide (locks.length < Config.lockEntries) && !blocked locks earlier word 1

/-- A merge beat takes its lock at stage READING (R137). -/
def takeLock (i : InitId) (word : Addr) (s : State) : State :=
  { s with locks := s.locks ++ [{ word := word, init := i, stage := .reading }],
           merges := s.merges.set i (s.merges[i].map (fun m => { m with stage := .locked })) }

/-- Go through waiting accesses in arrival order: each that now passes takes its lock or is issued, the others keep their
places (R139). `kept` holds the earlier waiters still waiting. -/
def settleFrom (kept : List Waiter) : List Waiter → State → State
  | [], s => { s with waiting := kept }
  | .access r :: rest, s =>
    if blocked s.locks kept r.addr r.count then settleFrom (kept ++ [.access r]) rest s
    else settleFrom kept rest (issue r s)
  | .beat i word :: rest, s =>
    if mayLock s.locks kept word then settleFrom kept rest (takeLock i word s)
    else settleFrom (kept ++ [.beat i word]) rest s

/-- The MU settles its waiting list (R139). -/
def settleWaiters (s : State) : State := settleFrom [] s.waiting s

/-- The lock entry an initiator's beat holds is released, and the waiting list is settled in the step (R137, R139). -/
def releaseLock (i : InitId) (s : State) : State :=
  settleWaiters { s with locks := s.locks.filter (fun l => decide (l.init ≠ i)) }

/-! ### Queue Engine: cells and the Free List -/

/-- A cell becomes FREE, its fields cleared, and is appended at the Free List tail (R10). -/
def appendFree (c : Nat) (s : State) : State :=
  { s.setCell c Cell.freed with freeList := s.freeList ++ [c] }

/-- The fields of a cell that becomes OPEN: an empty written-word set and clear flags (R11, R20). -/
def Cell.opening (q : QueueId) (origin : Option QueueId) : Cell :=
  { state := .opened, owner := some q, origin := origin, sequence := none, written := some 0#32, complete := false,
    damaged := false, pins := 0, inFlight := 0 }

/-- One more OPEN cell of the queue (R16). -/
def incOpen (q : QueueId) (s : State) : State := s.updQueue q (fun x => { x with openCount := x.openCount + 1 })

/-- One fewer OPEN cell of the queue (R16). -/
def decOpen (q : QueueId) (s : State) : State := s.updQueue q (fun x => { x with openCount := x.openCount - 1 })

/-- Allocation: the Free List head becomes OPEN for the queue (R11). -/
def allocate (q : QueueId) (origin : Option QueueId) (s : State) : Option (Nat × State) :=
  match s.freeList with
  | [] => none
  | c :: rest => some (c, incOpen q { s.setCell c (Cell.opening q origin) with freeList := rest })

/-! ### Queue Engine: accesses to cells -/

/-- One more access in flight for the cell (R8). -/
def incFlight (c : Nat) (s : State) : State := s.updCell c (fun x => { x with inFlight := x.inFlight + 1 })

/-- One fewer access in flight for the cell (R8). -/
def decFlight (c : Nat) (s : State) : State := s.updCell c (fun x => { x with inFlight := x.inFlight - 1 })

/-- The memory request that performs a queue request on a cell: beat j at window word i becomes a beat to word i of the
cell (R33, R45, R57, R68). -/
def cellRequest (s : State) (r : Request) (a : QueueAccess) (x : CellAccess) : MemReq :=
  { addr := s.wordAddr x.cell a.first, body := r.body, owner := .cell x, fate := .live }

/-- A composition write: the written-word set grows, the in-flight count rises, and the memory write is handed over
(R33, R34). A MEMORY record of it names the binding's target queue (R35). -/
def composeWrite (i : InitId) (r : Request) (a : QueueAccess) (target : QueueId) (c : Nat) (s : State) : State :=
  let bits := match r.body with
    | .read _ => 0#32
    | .write bs => writtenBits a.first bs
  let s := s.updCell c (fun x => { x with written := x.written.map (· ||| bits) })
  let s := incFlight c s
  handOver (cellRequest s r a
    { init := i, cell := c, queue := target, use := .compose (a.closing r.body.count),
      pattern := (s.queue target).config.emptyPattern }) s

/-- A read of the take window through an ACTIVE binding (R57). -/
def takeRead (i : InitId) (r : Request) (a : QueueAccess) (c : Nat) (s : State) : State :=
  let s := incFlight c s
  handOver (cellRequest s r a
    { init := i, cell := c, queue := a.queue, use := .take (a.closing r.body.count),
      pattern := (s.queue a.queue).config.emptyPattern }) s

/-! ### Wait Unit and Queue Engine: parking, granting, serving -/

/-- The QE parks an initiator's current request: it takes the lowest-numbered free slot and the arrival list's tail. Its
deadline is the tick count plus the wait (R87, R89, R91). With no slot free, which R90 excludes, nothing changes. -/
def park (kind : HeldKind) (i : InitId) (r : Request) (a : QueueAccess) (wait : BitVec 16) (s : State) : State :=
  match s.freeSlot with
  | none => s
  | some k =>
    { s.take i with
        slots := s.slots.set k (some { queue := a.queue, kind := kind, init := i, req := r, access := a,
                                       deadline := s.tickCount + wait.setWidth 32 }),
        arrival := s.arrival ++ [k] }

/-- An opening write on a queue that is not full takes the Free List head, with a binding in the given entry, and is
performed as a composition write (R31). -/
def openWrite (i : InitId) (r : Request) (a : QueueAccess) (target : QueueId) (origin : Option QueueId) (e : EntryId)
    (s : State) : State :=
  match allocate target origin s with
  | none => s
  | some (c, s) =>
    composeWrite i r a target c
      (s.setPut e (some { init := i, origin := a.queue, target := target, state := .active c }))

/-- The held put that the room goes to: the earliest in arrival order whose queue is not full (R92, R93). -/
def grantee (s : State) : Option (SlotId × Slot) :=
  s.findHeld (fun x => decide (x.kind = .put) && !s.full x.queue)

/-- A held put is granted: it leaves its slot and is performed as an opening write on a queue that is not full, or is
answered FAULT (NO_BINDING) when the Put Binding Table is full (R92, R93). -/
def grant (k : SlotId) (x : Slot) (s : State) : State :=
  let s := s.vacate k
  match s.freePut with
  | none => respondFault .noBinding x.init x.req.addr (some x.access.aperture) (some x.queue) [] s
  | some e => openWrite x.init x.req x.access x.queue none e s

/-- Grant held puts while there is a candidate, at most `fuel` (R92). -/
def grantLoop : Nat → State → State
  | 0, s => s
  | n + 1, s =>
    match grantee s with
    | none => s
    | some (k, x) => grantLoop n (grant k x s)

/-- The room of one or more appends is offered to the held puts (R92). While the reset drain is set the QE performs no
allocation (R25). Each grant takes a slot off the arrival list, so as many grants as it is long are enough. -/
def offerRoom (s : State) : State := if s.drain then s else grantLoop s.arrival.length s

/-- A first take, or a held take served, binds cell c in the given entry and reads through the binding (R54). -/
def bindTake (i : InitId) (r : Request) (a : QueueAccess) (e : EntryId) (c : Nat) (s : State) : State :=
  takeRead i r a c
    ((s.updCell c (fun x => { x with state := .taken })).setTake e
      (some { init := i, queue := a.queue, state := .active c }))

/-- A held take is served with the oldest available cell, or is answered FAULT (NO_BINDING) with the empty pattern when the
Take Binding Table is full (R51, R95). -/
def serve (k : SlotId) (x : Slot) (c : Nat) (s : State) : State :=
  let s := s.vacate k
  match s.freeTake with
  | none =>
    respondFault .noBinding x.init x.req.addr (some x.access.aperture) (some x.queue)
      (x.req.body.fill (s.queue x.queue).config.emptyPattern) s
  | some e => bindTake x.init x.req x.access e c s

/-- Serve the queue's held takes, earliest first, while a cell is available, at most `fuel` (R95). -/
def serveLoop (q : QueueId) : Nat → State → State
  | 0, s => s
  | n + 1, s =>
    match s.findHeld (fun x => decide (x.kind = .take) && decide (x.queue = q)), s.oldest q with
    | some (k, x), some c => serveLoop q n (serve k x c s)
    | _, _ => s

/-- The availability of a cell is offered to the queue's held takes (R95). Each service takes a slot off the arrival list. -/
def serveTakes (q : QueueId) (s : State) : State := serveLoop q s.arrival.length s

/-! ### Queue Engine: flush -/

/-- Every cell the queue owns has no access in flight and no pin (R110). -/
def State.cellsQuiet (s : State) (q : QueueId) : Bool :=
  s.cells.all (fun x => decide (x.owner ≠ some q) || (decide (x.inFlight = 0) && decide (x.pins = 0)))

/-- The flush of the queue may complete: it is FLUSHING, its cells are quiet, and the QE's SYS_RESET handling is not waiting
for acknowledgements (R108, R110). The reset drain is set exactly during that wait: `settleDrain` clears it in the step in
which nothing is awaited any more, which with N 0 or steering OFF is the step of SYS_RESET_ASSERT (R25, log 8). -/
def State.flushDone (s : State) (q : QueueId) : Bool := (s.queue q).isFlushing && s.cellsQuiet q && !s.drain

/-- The OPEN cells owned by a queue, in ascending order of the index of the ACTIVE put binding that holds each (R111). -/
def State.openCells (s : State) (q : QueueId) : List Nat :=
  upTo16.filterMap (fun e => match s.putTable[e] with
    | some b => if b.target = q then match b.state with
        | .active c => some c
        | .phantom => none
        | .voided => none
      else none
    | none => none)

/-- A put binding whose target queue is flushed becomes VOIDED (R112). -/
def voidPut (q : QueueId) (b : PutBinding) : PutBinding := if b.target = q then { b with state := .voided } else b

/-- A take binding of the flushed queue becomes VOIDED (R112). -/
def voidTake (q : QueueId) (b : TakeBinding) : TakeBinding := if b.queue = q then { b with state := .voided } else b

/-- The queue returns to its prior state (R111). -/
def QueueState.restored : QueueState → QueueState
  | .rest r => .rest r
  | .flushing prior => .rest prior

/-- The MLC records the completion of its pending flush (R111, R172). -/
def PendingCmd.completed : PendingCmd → PendingCmd
  | .pending q => .complete q
  | .idle => .idle
  | .complete q => .complete q

/-- The completion of a flush, in the order of R111: the committed list's cells and then the OPEN cells go to the Free List,
the bindings are voided (R112), the queue returns to its prior state, the room is offered, the MLC is told. -/
def completeFlush (q : QueueId) (s : State) : State :=
  let cells := (s.queue q).committed ++ s.openCells q
  let s := cells.foldl (fun s c => appendFree c s) s
  let s := { s with putTable := mapTable (Option.map (voidPut q)) s.putTable,
                    takeTable := mapTable (Option.map (voidTake q)) s.takeTable }
  let s := s.updQueue q (fun x => { x with committed := [], openCount := 0, state := x.state.restored })
  let s := offerRoom s
  { s with pendingCmd := s.pendingCmd.completed }

/-- The completion is taken in the step in which its condition holds (R110). -/
def tryFlush (q : QueueId) (s : State) : State := if s.flushDone q then completeFlush q s else s

/-- Test the flush of a cell's owning queue after an acknowledgement has lowered a count of the cell (R110). -/
def tryFlushOwner (owner : Option QueueId) (s : State) : State :=
  match owner with
  | some q => tryFlush q s
  | none => s

/-- A pin falls; a retired cell whose last pin falls joins the Free List tail (R9). Whether it did is told too. -/
def releasePin (c : Nat) (s : State) : State × Bool :=
  let s := s.updCell c (fun x => { x with pins := x.pins - 1 })
  let x := s.cell c
  match x.owner with
  | some q => if decide (x.pins = 0) && s.heldOut q c x then (appendFree c s, true) else (s, false)
  | none => (s, false)

/-- A drop (R72): lost is counted; the write is absorbed through a PHANTOM binding, and a closing one is answered by the
Report flag with the binding freed in the same step. -/
def dropWrite (i : InitId) (r : Request) (a : QueueAccess) (e : EntryId) (s : State) : State :=
  let s := s.raiseLost a.queue
  if a.closing r.body.count then
    respond i (if (s.queue a.queue).config.report then .fail else .ok) [] s
  else
    respond i .ok []
      (s.setPut e (some { init := i, origin := a.queue, target := a.queue, state := .phantom }))

end Sys2Proof.Machine
end

