-- ==== Sys2Proof/Machine/Composing.lean ====
section
/-! DEFINITION. Composing messages: PUT_WINDOW_WRITE with the opening write and the overflow policies, the acknowledgements
of composition and closing writes with the commit and the discard, PUT_WINDOW_READ and its acknowledgement (chapters 2
and 4). -/

namespace Sys2Proof.Machine

/-! ### Queue requests -/

/-- The current request of an initiator, when it is a queue request to a window and the QE may take it: a queue request waits
while the reset drain is set (R86, R126, R166). -/
def State.windowRequest (s : State) (w : Window) (i : InitId) : Option (Request × QueueAccess) :=
  if s.drain then none
  else match s.current i with
    | some { req := r, decoded := .queue a } => if a.window = w then some (r, a) else none
    | _ => none

/-- The queue was reconfigured to another cell length between the decode and the turn of the request (R126). -/
def State.stale (s : State) (a : QueueAccess) : Bool := decide ((s.queue a.queue).config.cellLen ≠ a.cellLen)

/-- The QE answers FAULT with a record naming the request's queue (R30, R53, R67, R126). -/
def queueFault (kind : FaultKind) (i : InitId) (r : Request) (a : QueueAccess) (data : List Word) (s : State) : State :=
  respondFault kind i r.addr (some a.aperture) (some a.queue) data s

/-- The empty pattern of a queue in every data beat of a read. -/
def State.emptyData (s : State) (q : QueueId) (r : Request) : List Word :=
  r.body.fill (s.queue q).config.emptyPattern

/-! ### The overflow policies (chapter 4) -/

/-- The cell to displace: the first in list order that is QUEUED with no pin and no access in flight (R74). -/
def State.eligible (s : State) (q : QueueId) : Option Nat :=
  (s.queue q).committed.find? (fun c =>
    let x := s.cell c
    decide (x.state = .queued) && decide (x.pins = 0) && decide (x.inFlight = 0))

/-- Displacement: the cell leaves the list and becomes OPEN for the new composition of the same queue; lost is counted
(R75). -/
def displaceWrite (i : InitId) (r : Request) (a : QueueAccess) (e : EntryId) (c : Nat) (s : State) : State :=
  let s := s.setCell c (Cell.opening a.queue none)
  let s := s.updQueue a.queue (fun x => { x with committed := x.committed.erase c, openCount := x.openCount + 1 })
  let s := s.setPut e (some { init := i, origin := a.queue, target := a.queue, state := .active c })
  composeWrite i r a a.queue c (s.raiseLost a.queue)

/-- A visited queue is acceptable: it is ENABLED, its cell length is the origin's, and it is not full (R79). -/
def State.acceptable (s : State) (origin q : QueueId) : Bool :=
  decide ((s.queue q).state = .rest .enabled) &&
    decide ((s.queue q).config.cellLen = (s.queue origin).config.cellLen) && !s.full q

/-- The divert walk from a candidate, with the queues visited so far and the visits left (R78). -/
def divertWalk (s : State) (origin : QueueId) : Nat → List QueueId → Option QueueId → Option QueueId
  | 0, _, _ => none
  | _ + 1, _, none => none
  | n + 1, visited, some q =>
    if visited.contains q then none
    else if s.acceptable origin q then some q
    else divertWalk s origin n (q :: visited) (s.queue q).config.divertTarget

/-- The queue that accepts a composition diverted from the origin (R78). -/
def State.divertTo (s : State) (origin : QueueId) : Option QueueId :=
  divertWalk s origin Config.divertVisits [origin] (s.queue origin).config.divertTarget

/-- The opening write on a full queue, by its policy (R71 to R84). -/
def fullWrite (i : InitId) (r : Request) (a : QueueAccess) (e : EntryId) (s : State) : State :=
  match (s.queue a.queue).config.policy with
  | .dropNew => dropWrite i r a e s
  | .displaceOldest =>
    match s.eligible a.queue with
    | some c => displaceWrite i r a e c (s.take i)
    | none => dropWrite i r a e s
  | .divert =>
    match s.divertTo a.queue with
    | some q => openWrite i r a q (some a.queue) e ((s.take i).raiseDiverted a.queue)
    | none => dropWrite i r a e s
  | .hold =>
    if (s.queue a.queue).config.putWait = 0#16 then dropWrite i r a e s
    else park .put i r a (s.queue a.queue).config.putWait s

/-! ### PUT_WINDOW_WRITE -/

/-- The opening write, its tests in order (R30). -/
def openingWrite (i : InitId) (r : Request) (a : QueueAccess) (s : State) : State :=
  match (s.queue a.queue).state with
  | .rest .disabled => queueFault .disabled i r a [] s
  | .flushing _ => respond i .fail [] s
  | .rest .enabled =>
    match s.freePut with
    | none => queueFault .noBinding i r a [] s
    | some e => if s.full a.queue then fullWrite i r a e s else openWrite i r a a.queue none e (s.take i)

/-- A write through an existing put binding (R36, R43, R44). -/
def boundWrite (i : InitId) (r : Request) (a : QueueAccess) (e : EntryId) (b : PutBinding) (s : State) : State :=
  match b.state with
  | .active c =>
    if (s.queue b.target).isFlushing then respond i .fail [] s else composeWrite i r a b.target c (s.take i)
  | .phantom =>
    if (s.queue b.target).isFlushing then respond i .fail [] s
    else if a.closing r.body.count then
      respond i (if (s.queue b.origin).config.report then .fail else .ok) [] (s.setPut e none)
    else respond i .ok [] s
  | .voided => respond i .fail [] (if a.closing r.body.count then s.setPut e none else s)

/-- The QE takes a write to a put window (R27, R126). -/
def putWrite (i : InitId) (r : Request) (a : QueueAccess) (s : State) : State :=
  if s.stale a then queueFault .boundary i r a [] s
  else match s.putBinding i a.queue with
    | none => openingWrite i r a s
    | some (e, b) => boundWrite i r a e b s

/-- PUT_WINDOW_WRITE (R27). -/
def execPutWindowWrite (i : InitId) (s : State) : Host.Outcome State Fault Refusal :=
  match s.windowRequest .put i with
  | some (r, a) => if r.body.isWrite then finish (putWrite i r a s) else .next s
  | none => .next s

/-! ### Acknowledgements of cell accesses -/

/-- The cell access whose acknowledgement these beats complete, with the request it performs (R165). -/
def State.cellAck (s : State) (beats : List MemBeat) : Option (CellAccess × Request × QueueAccess) :=
  match s.ackLive beats with
  | some { owner := .cell x, .. } =>
    match s.performing x.init with
    | some { req := r, decoded := .queue a } => some (x, r, a)
    | _ => none
  | _ => none

/-- The MEMORY fault of a cell access: the record names the access's queue, a read carries its empty pattern (R35, R42,
R45, R59, R68), which for a take read and a peek is that of the moment the QE took the read (R50, section 3.1). -/
def memoryFault (x : CellAccess) (r : Request) (a : QueueAccess) (s : State) : State :=
  respondFault .memory x.init r.addr (some a.aperture) (some x.queue) (r.body.fill x.pattern) s

/-- The answer of a cell access that changes nothing but its count: OK with the data, or the MEMORY fault. -/
def answerAccess (x : CellAccess) (r : Request) (a : QueueAccess) (beats : List MemBeat) (s : State) : State :=
  if anyError beats then memoryFault x r a s else respond x.init .ok (r.body.returned beats) s

/-- The acknowledgement of a composition write that is not closing: an error damages the cell (R7, R35). Its MEMORY record
comes before the NO_BINDING records of the held puts that a flush it completes offers room to: R153 takes the records of one
step in either order (DESIGN CHOICE, log 27; of the responses, log 28). -/
def composeAck (x : CellAccess) (r : Request) (a : QueueAccess) (beats : List MemBeat) (s : State) : State :=
  let owner := (s.cell x.cell).owner
  let s := decFlight x.cell (retireHead s)
  let s := if anyError beats then s.updCell x.cell (fun y => { y with damaged := true }) else s
  tryFlushOwner owner (answerAccess x r a beats s)

/-- COMPOSITION_WRITE_ACK (R35). -/
def execCompositionWriteAck (beats : List MemBeat) (s : State) : Host.Outcome State Fault Refusal :=
  match s.cellAck beats with
  | some (x, r, a) => if x.use = .compose false then finish (composeAck x r a beats s) else .next s
  | none => .next s

/-- Free the put binding keyed by the initiator and the queue of the access (R29). -/
def freePutBinding (i : InitId) (q : QueueId) (s : State) : State :=
  match s.putEntry i q with
  | some e => s.setPut e none
  | none => s

/-- The commit of a cell into its target queue: sequence, complete flag, place in the list, counts, binding, WATERMARK
(R38, R39, R147). -/
def commitCell (q : QueueId) (c : Nat) (s : State) : State :=
  let full := allWords (s.queue q).config.cellLen
  let seq := (s.queue q).nextSeq
  let s := s.updCell c (fun y => { y with state := .queued, sequence := some seq, written := none,
                                          complete := decide (y.written.map (· &&& full) = some full) })
  let s := s.updQueue q (fun x => { x with nextSeq := x.nextSeq + 1#16, committed := x.committed ++ [c],
                                           openCount := x.openCount - 1 })
  s.checkWatermark q

/-- The acknowledgement of a closing write: the commit, or the discard of a damaged cell (R38, R41, R42). The MEMORY record of
the discard comes before the NO_BINDING records of the held puts that its room, or that of a flush it completes, is offered
to: R153 takes the records of one step in either order (DESIGN CHOICE, log 27). Its own response stands before those of the
held requests granted or served in the step (R39, R42; DESIGN CHOICE, log 28). -/
def closeAck (x : CellAccess) (r : Request) (a : QueueAccess) (beats : List MemBeat) (s : State) : State :=
  let owner := (s.cell x.cell).owner
  let s := freePutBinding x.init a.queue (decFlight x.cell (retireHead s))
  tryFlushOwner owner
    (if anyError beats || (s.cell x.cell).damaged then
      offerRoom (memoryFault x r a (decOpen x.queue (appendFree x.cell s)))
    else
      serveTakes x.queue (respond x.init .ok [] (commitCell x.queue x.cell s)))

/-- CLOSING_WRITE_ACK (R38). -/
def execClosingWriteAck (beats : List MemBeat) (s : State) : Host.Outcome State Fault Refusal :=
  match s.cellAck beats with
  | some (x, r, a) => if x.use = .compose true then finish (closeAck x r a beats s) else .next s
  | none => .next s

/-! ### Reads of the put window -/

/-- A put-window read issued through an ACTIVE binding (R45). -/
def putRead (i : InitId) (r : Request) (a : QueueAccess) (target : QueueId) (c : Nat) (s : State) : State :=
  let s := incFlight c s
  handOver (cellRequest s r a
    { init := i, cell := c, queue := target, use := .putRead, pattern := (s.queue target).config.emptyPattern }) s

/-- The empty pattern, with OK, or with FAIL when the queue is FLUSHING (R45, R46). -/
def answerEmpty (i : InitId) (r : Request) (q : QueueId) (s : State) : State :=
  respond i (if (s.queue q).isFlushing then .fail else .ok) (s.emptyData q r) s

/-- The QE takes a read of a put window (R27, R45, R46, R126). -/
def putWindowRead (i : InitId) (r : Request) (a : QueueAccess) (s : State) : State :=
  if s.stale a then queueFault .boundary i r a (r.body.fill 0#64) s
  else match s.putBinding i a.queue with
    | none => answerEmpty i r a.queue s
    | some (_, b) =>
      match b.state with
      | .active c =>
        if (s.queue b.target).isFlushing then answerEmpty i r b.target s else putRead i r a b.target c (s.take i)
      | .phantom => answerEmpty i r b.target s
      | .voided => respond i .ok (s.emptyData b.target r) s

/-- PUT_WINDOW_READ (R45). -/
def execPutWindowRead (i : InitId) (s : State) : Host.Outcome State Fault Refusal :=
  match s.windowRequest .put i with
  | some (r, a) => if r.body.isWrite then .next s else finish (putWindowRead i r a s)
  | none => .next s

/-- The acknowledgement of a read that leaves its cell as it stands (R45, R57, R59). The MEMORY record of an erring read comes
before the NO_BINDING records of the held puts that a flush it completes offers room to: R153 takes the records of one step in
either order (DESIGN CHOICE, log 27; of the responses, log 28). -/
def readAck (x : CellAccess) (r : Request) (a : QueueAccess) (beats : List MemBeat) (s : State) : State :=
  let owner := (s.cell x.cell).owner
  tryFlushOwner owner (answerAccess x r a beats (decFlight x.cell (retireHead s)))

/-- PUT_WINDOW_READ_ACK (R45). -/
def execPutWindowReadAck (beats : List MemBeat) (s : State) : Host.Outcome State Fault Refusal :=
  match s.cellAck beats with
  | some (x, r, a) => if x.use = .putRead then finish (readAck x r a beats s) else .next s
  | none => .next s

end Sys2Proof.Machine
end

