-- ==== Sys2Proof/Machine/ControlPage.lean ====
section
/-! DEFINITION. The control page (section 7.6): its words, ABANDON, RETURN, EVENTS_WRITE, CONTROL_WORD_WRITE and
CONTROL_PAGE_READ. A control-page request acts on all its beats in beat order in one step (R127). A write burst that covers
several words with an effect is commanded by the row of any of them, and performed whole (DESIGN CHOICE, log 12). -/

namespace Sys2Proof.Machine

/-! ### Words read (section 13.5) -/

/-- The queue state as the two low bits of STATUS (section 13.5). -/
def QueueState.code : QueueState → Nat
  | .rest .disabled => 0
  | .rest .enabled => 1
  | .flushing _ => 2

/-- The STATUS word (R128, section 13.5). -/
def State.statusWord (s : State) (q : QueueId) : Word :=
  fieldAt (s.queue q).state.code 0 ||| bitAt (decide (0 < s.available q)) 7 ||| fieldAt (s.available q) 16 |||
    fieldAt (s.takenCount q) 32 ||| fieldAt (s.queue q).openCount 40

/-- The TAG word of an ACTIVE take binding on a cell (R66, section 13.5). -/
def Cell.tagWord (c : Cell) : Word :=
  bitAt true 0 ||| bitAt c.complete 2 ||| bitAt c.origin.isSome 3 |||
    fieldAt (match c.origin with
      | some q => q.val
      | none => 0) 8 |||
    fieldAt (match c.sequence with
      | some n => n.toNat
      | none => 0) 16

/-- The TAG word for the reading initiator (R66, section 13.5). -/
def State.tagWord (s : State) (i : InitId) (q : QueueId) : Word :=
  match s.takeBinding i q with
  | none => 0#64
  | some (_, b) =>
    match b.state with
    | .active c => (s.cell c).tagWord
    | .voided => bitAt true 0 ||| bitAt true 1

/-- The COUNTS word (R128, section 13.5). -/
def State.countsWord (s : State) (q : QueueId) : Word :=
  fieldAt (s.queue q).lost.toNat 0 ||| fieldAt (s.queue q).underrun.toNat 16

/-- A control word as a read returns it; ABANDON, RETURN and words 6 and above read as zero (R127, R182). -/
def State.controlWord (s : State) (i : InitId) (q : QueueId) : Nat → Word
  | 0 => s.statusWord q
  | 1 => s.tagWord i q
  | 4 => fieldAt (s.flags[q]).stickyNat 0
  | 5 => s.countsWord q
  | _ => 0#64

/-! ### Words written -/

/-- ABANDON by an initiator on a queue (R47, R48): the put binding is freed, and the cell of an ACTIVE one joins the Free
List, its room offered. -/
def abandonBinding (i : InitId) (q : QueueId) (s : State) : State :=
  match s.putBinding i q with
  | none => s
  | some (e, b) =>
    match b.state with
    | .active c => offerRoom (decOpen b.target (appendFree c (s.setPut e none)))
    | .phantom => s.setPut e none
    | .voided => s.setPut e none

/-- RETURN by an initiator on a queue (R63, R64): the take binding is freed, and the cell of an ACTIVE one becomes QUEUED in
its place and is offered to the queue's held takes. -/
def returnBinding (i : InitId) (q : QueueId) (s : State) : State :=
  match s.takeBinding i q with
  | none => s
  | some (e, b) =>
    match b.state with
    | .active c => serveTakes q ((s.updCell c (fun x => { x with state := .queued })).setTake e none)
    | .voided => s.setTake e none

/-- A write of EVENTS: each sticky flag written as 1 is cleared. The five bits lie in byte 0, so only its strobe counts
(R148, section 13.5). -/
def eventsWritten (q : QueueId) (b : WriteBeat) (s : State) : State :=
  if b.strobes.getLsbD 0 then s.updFlags q (fun f => f.clear (eventSetOf (b.data.truncate 8))) else s

/-- The effect of writing one control word (R127). -/
def controlBeat (i : InitId) (q : QueueId) (w : Nat) (b : WriteBeat) (s : State) : State :=
  match w with
  | 2 => abandonBinding i q s
  | 3 => returnBinding i q s
  | 4 => eventsWritten q b s
  | _ => s

/-- The effects of a write burst in beat order, the first beat at word `w` (R127). -/
def controlBeats (i : InitId) (q : QueueId) : Nat → List WriteBeat → State → State
  | _, [], s => s
  | w, b :: bs, s => controlBeats i q (w + 1) bs (controlBeat i q w b s)

/-- The words of the control page with an effect on a write (R127). -/
def effectWords : List Nat := [2, 3, 4]

/-- The current control-page write of an initiator, when the QE may take it. -/
def State.controlWrite (s : State) (i : InitId) : Option (QueueAccess × List WriteBeat) :=
  match s.windowRequest .control i with
  | some ({ body := .write bs, .. }, a) => some (a, bs)
  | _ => none

/-- A control-page write is performed whole and answered OK in every queue state (R127). Its OK stands in `responses` after
the FAULT (NO_BINDING) answers of the held puts and held takes that ABANDON and RETURN offer their cells to, of which the rules
give no order (R63, R92, R95; DESIGN CHOICE, log 28). -/
def performControlWrite (i : InitId) (a : QueueAccess) (bs : List WriteBeat) (s : State) : State :=
  respond i .ok [] (controlBeats i a.queue a.first bs s)

/-- A control-page write whose beats pass the test is performed; another is not this command's. -/
def controlWriteIf (p : List Nat → Bool) (i : InitId) (s : State) : Host.Outcome State Fault Refusal :=
  match s.controlWrite i with
  | some (a, bs) => if p (a.words bs.length) then finish (performControlWrite i a bs s) else .next s
  | none => .next s

/-- ABANDON (R47): a write that covers word 2. -/
def execAbandon (i : InitId) (s : State) : Host.Outcome State Fault Refusal :=
  controlWriteIf (fun ws => ws.contains 2) i s

/-- RETURN (R63): a write that covers word 3. -/
def execReturn (i : InitId) (s : State) : Host.Outcome State Fault Refusal :=
  controlWriteIf (fun ws => ws.contains 3) i s

/-- EVENTS_WRITE (R148): a write that covers word 4. -/
def execEventsWrite (i : InitId) (s : State) : Host.Outcome State Fault Refusal :=
  controlWriteIf (fun ws => ws.contains 4) i s

/-- CONTROL_WORD_WRITE (R127): a write that covers no word with an effect. -/
def execControlWordWrite (i : InitId) (s : State) : Host.Outcome State Fault Refusal :=
  controlWriteIf (fun ws => ws.all (fun w => !effectWords.contains w)) i s

/-- CONTROL_PAGE_READ (R127): OK with each beat's word as the queue stands at this one moment. -/
def execControlPageRead (i : InitId) (s : State) : Host.Outcome State Fault Refusal :=
  match s.windowRequest .control i with
  | some ({ body := .read n, .. }, a) => .next (respond i .ok ((a.words n).map (s.controlWord i a.queue)) s)
  | _ => .next s

end Sys2Proof.Machine
end

