-- ==== Sys2Proof/Machine/Formats.lean ====
section
/-! DEFINITION. The replies of the management link, byte by byte (chapter 13). Bytes and bits that the chapter assigns to no
item, and fields that do not apply, are zero (R182). -/

namespace Sys2Proof.Machine

/-- The status bytes (R171, section 13.1). -/
inductive LinkStatus where
  | done
  | pending
  | busy
  | denied
  | badArg
  | badCmd
deriving DecidableEq, Repr

/-- The encoding of a status byte (section 13.1). -/
def LinkStatus.byte : LinkStatus → Byte
  | .done => 0#8
  | .pending => 1#8
  | .busy => 2#8
  | .denied => 3#8
  | .badArg => 4#8
  | .badCmd => 5#8

/-- The steering state as a byte (section 13.4). -/
def Steering.byte : Steering → Byte
  | .off => 0#8
  | .on => 1#8

/-- The IDENTIFY reply (R174, section 13.4). -/
def State.identifyReply (s : State) : List Byte :=
  bytesOf 2 Config.vendorId ++ bytesOf 2 Config.partId ++ [Config.revision] ++ Config.capacities ++
    bytesOfNat 2 Config.largestPool ++ [s.steering.byte]

/-- The first four bytes of the STATUS reply: the pending state, its command, its queue, the final status (section 13.4). -/
def PendingCmd.bytes : PendingCmd → List Byte
  | .idle => [0#8, 0#8, 0#8, 0#8]
  | .pending q => [1#8, Config.flushCode, BitVec.ofNat 8 q.val, 0#8]
  | .complete q => [2#8, Config.flushCode, BitVec.ofNat 8 q.val, LinkStatus.byte .done]

/-- The STATUS reply (R173, section 13.4). -/
def State.statusReply (s : State) : List Byte :=
  s.pendingCmd.bytes ++ [s.steering.byte] ++ bytesOfNat 2 s.poolSize ++ bytesOfNat 2 s.freeList.length ++
    [byteOfBool s.drain]

/-- The encoding of an aperture kind (section 13.2). -/
def ApertureKind.byte : ApertureKind → Byte
  | .queue => 0#8
  | .summary => 1#8
  | .merge => 2#8

/-- The encoding of a merge operation (section 13.2). -/
def MergeOp.byte : MergeOp → Byte
  | .set => 0#8
  | .clear => 1#8
  | .flip => 2#8
  | .add => 3#8
  | .cond => 4#8

/-- The APERTURE_READ reply (R117, section 13.2). -/
def Aperture.reply (a : Aperture) : List Byte :=
  [byteOfBool a.enabled] ++ bytesOf 5 a.base ++
    [a.sizeExp, a.kind.byte, a.permitted, BitVec.ofNat 8 a.queue.val] ++ bytesOf 2 a.reported ++ [a.op.byte] ++
    bytesOf 8 a.mask ++ bytesOf 5 a.targetBase

/-- The encoding of a policy (section 13.3). -/
def Policy.byte : Policy → Byte
  | .dropNew => 0#8
  | .displaceOldest => 1#8
  | .divert => 2#8
  | .hold => 3#8

/-- The encoding of a divert target (section 13.3). -/
def divertByte : Option QueueId → Byte
  | none => 0xFF#8
  | some q => BitVec.ofNat 8 q.val

/-- The encoding of an Attention line (section 13.3). -/
def Line.byte : Line → Byte
  | .a => 0#8
  | .b => 1#8

/-- The QUEUE_CONFIG_READ reply (R106, section 13.3). -/
def QueueConfig.reply (c : QueueConfig) : List Byte :=
  [BitVec.ofNat 8 c.cellLen.val] ++ bytesOfNat 2 c.limit ++
    [c.policy.byte, divertByte c.divertTarget, byteOfBool c.report] ++ bytesOf 8 c.emptyPattern ++
    bytesOf 2 c.takeWait ++ bytesOf 2 c.putWait ++ bytesOfNat 2 c.watermark ++
    [c.line.byte, BitVec.ofNat 8 c.eventMask.toNat]

/-- The state byte of the QUEUE_STATE_READ reply: state in bits 0 and 1, prior state in bits 2 and 3 (section 13.3). -/
def QueueState.byte : QueueState → Byte
  | .rest r => BitVec.ofNat 8 (QueueState.rest r).code
  | .flushing prior => BitVec.ofNat 8 (2 + 4 * (QueueState.rest prior).code)

/-- A put binding names the queue as origin or as target (R177). -/
def PutBinding.names (b : PutBinding) (q : QueueId) : Bool := decide (b.origin = q) || decide (b.target = q)

/-- A put binding is ACTIVE. -/
def PutBinding.isActive (b : PutBinding) : Bool :=
  match b.state with
  | .active _ => true
  | .phantom => false
  | .voided => false

/-- A take binding is ACTIVE. -/
def TakeBinding.isActive (b : TakeBinding) : Bool :=
  match b.state with
  | .active _ => true
  | .voided => false

/-- The QUEUE_STATE_READ reply (R177, section 13.3). -/
def State.queueReply (s : State) (q : QueueId) : List Byte :=
  let x := s.queue q
  [x.state.byte] ++ bytesOfNat 2 x.committed.length ++ bytesOfNat 2 (s.available q) ++ bytesOfNat 1 (s.takenCount q) ++
    bytesOfNat 1 x.openCount ++ bytesOfNat 2 (s.holding q) ++ bytesOf 2 x.nextSeq ++ bytesOf 2 x.lost ++
    bytesOf 2 x.underrun ++ bytesOf 2 x.expired ++ bytesOf 2 x.divertedOut ++ bytesOfNat 1 (s.flags[q]).toNat ++
    bytesOfNat 1 (s.countHeld (fun h => decide (h.kind = .put) && decide (h.queue = q))) ++
    bytesOfNat 1 (s.countHeld (fun h => decide (h.kind = .take) && decide (h.queue = q))) ++
    bytesOfNat 1 (s.countPut (fun b => b.names q && b.isActive)) ++
    bytesOfNat 1 (s.countPut (fun b => b.names q && decide (b.state = .phantom))) ++
    bytesOfNat 1 (s.countPut (fun b => b.names q && decide (b.state = .voided))) ++
    bytesOfNat 1 (s.countTake (fun b => decide (b.queue = q) && b.isActive)) ++
    bytesOfNat 1 (s.countTake (fun b => decide (b.queue = q) && decide (b.state = .voided)))

/-- The encoding of a fault kind (section 13.4). -/
def FaultKind.byte : FaultKind → Byte
  | .permission => 0#8
  | .boundary => 1#8
  | .misalign => 2#8
  | .wrongWay => 3#8
  | .disabled => 4#8
  | .noBinding => 5#8
  | .memory => 6#8
  | .arena => 7#8
  | .addPartial => 8#8
  | .denied => 9#8

/-- An optional index as a byte, zero when absent (R154, R182). -/
def optByte {n : Nat} : Option (Fin n) → Byte
  | none => 0#8
  | some k => BitVec.ofNat 8 k.val

/-- The presence bits of a fault record: initiator, address, aperture index, queue (section 13.4). -/
def FaultRecord.presences (r : FaultRecord) : Byte :=
  BitVec.ofNat 8 (r.init.isSome.toNat + 2 * r.addr.isSome.toNat + 4 * r.aperture.isSome.toNat +
    8 * r.queue.isSome.toNat)

/-- The record part of the FAULT_PEEK reply, bytes 1 to 14 (section 13.4). -/
def FaultRecord.bytes (r : FaultRecord) : List Byte :=
  [r.kind.byte, r.presences, optByte r.init] ++ bytesOf 5 (r.addr.getD 0#40) ++ [optByte r.aperture, optByte r.queue] ++
    bytesOf 4 r.stamp

/-- The FAULT_PEEK reply (R154, section 13.4): all zero on an empty log. -/
def State.faultReply (s : State) : List Byte :=
  match s.log with
  | [] => List.replicate 17 0#8
  | r :: _ => [1#8] ++ r.bytes ++ bytesOfNat 1 s.log.length ++ [s.overflow]

end Sys2Proof.Machine
end

