-- ==== Sys2Proof/Machine/Waits.lean ====
section
/-! DEFINITION. The tick generator, the expiry of held requests, and the steps of granting, serving and flush completion as
commands of their own (chapter 5, R110). -/

namespace Sys2Proof.Machine

/-! ### Expiry -/

/-- The tick count has reached the deadline of a held request (R87). -/
def State.due (s : State) (x : Slot) : Bool := decide (x.deadline = s.tickCount)

/-- A held take expires: it is answered empty, counting underrun and expired (R97). -/
def expireTake (k : SlotId) (x : Slot) (s : State) : State :=
  let s := s.vacate k
  respond x.init .ok (x.req.body.fill (s.queue x.queue).config.emptyPattern)
    ((s.raiseUnderrun x.queue).raiseExpired x.queue)

/-- A held put expires: expired is counted, and it is dropped as R72 states, or answered FAULT (NO_BINDING) when the Put
Binding Table is full (R98). -/
def expirePut (k : SlotId) (x : Slot) (s : State) : State :=
  let s := (s.vacate k).raiseExpired x.queue
  match s.freePut with
  | none => respondFault .noBinding x.init x.req.addr (some x.access.aperture) (some x.queue) [] s
  | some e => dropWrite x.init x.req x.access e s

/-- A held request expires (R97, R98). -/
def expire (k : SlotId) (x : Slot) (s : State) : State :=
  match x.kind with
  | .take => expireTake k x s
  | .put => expirePut k x s

/-- The due held request of a kind, of an initiator. -/
def State.dueHeld (s : State) (kind : HeldKind) (i : InitId) : Option (SlotId × Slot) :=
  s.findHeld (fun x => decide (x.kind = kind) && decide (x.init = i) && s.due x)

/-- HELD_TAKE_EXPIRY (R97). The advance that reaches the deadline makes this step; as a command of its own it makes the same
step, where a held request stands at its deadline (DEDUCED, log 5). -/
def execHeldTakeExpiry (i : InitId) (s : State) : Host.Outcome State Fault Refusal :=
  match s.dueHeld .take i with
  | some (k, x) => finish (expireTake k x s)
  | none => .next s

/-- HELD_PUT_EXPIRY (R98), as a command of its own like HELD_TAKE_EXPIRY (DEDUCED, log 5). -/
def execHeldPutExpiry (i : InitId) (s : State) : Host.Outcome State Fault Refusal :=
  match s.dueHeld .put i with
  | some (k, x) => finish (expirePut k x s)
  | none => .next s

/-! ### The tick -/

/-- The expiries that stand at the front of a queue of commands, each by its kind and its initiator. -/
def expiriesOf : List Instr → List (HeldKind × InitId)
  | .heldTakeExpiry i :: rest => (.take, i) :: expiriesOf rest
  | .heldPutExpiry i :: rest => (.put, i) :: expiriesOf rest
  | _ => []

/-- The slots in the order in which the requests that are due expire: those that the commands waiting next name, in the order
of the commands, then the others in arrival order. The rules let several expiries of one advance be taken in either order
(R97, R98; DESIGN CHOICE, log 7). -/
def State.expiryOrder (s : State) : List SlotId :=
  (expiriesOf s.pending).filterMap (fun p => (s.dueHeld p.1 p.2).map Prod.fst) ++ s.arrival

/-- Each due held request expires, in the order of the slots (R97, R98). -/
def expireDue (order : List SlotId) (s : State) : State :=
  order.foldl (fun s k => match s.slots[k] with
    | some x => if s.due x then expire k x s else s
    | none => s) s

/-- The end of a tick: the tick count advances by 1, the next tick begins, and every held request whose deadline the count
then equals expires (R87). -/
def advanceTick (s : State) : State :=
  let t := { s with tickCount := s.tickCount + 1#32, tickElapsed := 0 }
  expireDue t.expiryOrder t

/-- TICK_ADVANCE (R87). No tick runs while PWR_RESET is asserted: the first begins at its release. -/
def execTickAdvance (s : State) : Host.Outcome State Fault Refusal :=
  if s.pwrReset then .next s else finish (advanceTick s)

/-- One part clock without a command: it is one more clock of the tick in progress, and the last of an interval ends the tick
(R87; DESIGN CHOICE, log 9). -/
def partClock (s : State) : Host.Outcome State Fault Refusal :=
  if s.pwrReset then .next s
  else if s.tickElapsed + 1 < s.tickInterval then .next { s with tickElapsed := s.tickElapsed + 1 }
  else finish (advanceTick s)

/-! ### Grant, service and completion

The rules make each of these in the step of its cause (R92, R95, R110), and the meanings of those causes do. As a command
each makes the same step on its own, where its condition holds (DEDUCED, log 5). -/

/-- HELD_PUT_GRANT (R92, R93): the earliest held put whose queue is not full is granted. -/
def execHeldPutGrant (s : State) : Host.Outcome State Fault Refusal :=
  if s.drain then .next s
  else match grantee s with
    | some (k, x) => finish (grant k x s)
    | none => .next s

/-- HELD_TAKE_SERVICE (R95): the queue's earliest held take binds its oldest available cell. -/
def execHeldTakeService (q : QueueId) (s : State) : Host.Outcome State Fault Refusal :=
  match s.findHeld (fun x => decide (x.kind = .take) && decide (x.queue = q)), s.oldest q with
  | some (k, x), some c => finish (serve k x c s)
  | _, _ => .next s

/-- FLUSH_COMPLETION (R110, R111). -/
def execFlushCompletion (q : QueueId) (s : State) : Host.Outcome State Fault Refusal :=
  if s.flushDone q then finish (completeFlush q s) else .next s

end Sys2Proof.Machine
end

