-- ==== Sys2Proof/Machine/Link.lean ====
section
/-! DEFINITION. The management link: frames, and the commands they carry, decided by the tests of R171 in order (chapters 6,
7, 9 and 11). A link command stands for its frame up to the last argument bit, the step in which it is carried out (R169). -/

namespace Sys2Proof.Machine

/-! ### Frames (R168 to R170) -/

/-- The phase a frame is in, and none outside any frame, when the host has given `clocks` link clocks since select was
asserted, or since the last byte that a command of the table took (R168). -/
def Frame.phase (f : Frame) (clocks : Nat) : Option LinkPhase :=
  match f with
  | .outside => none
  | .receiving => some (if clocks < 8 then .command else .arguments)
  | .responding left => some (if clocks < 8 * left.length then .response else .trailing)

/-- The bit of MDO at the next link clock, after `clocks` of them: zero while the command is received, then the status byte
and the reply data, most significant bit first, then zero (R168, R170). Outside any frame, for which the phases of R168 give
MDO no level, it is zero (DESIGN CHOICE, log 13). -/
def Frame.mdo (f : Frame) (clocks : Nat) : Bool :=
  match f with
  | .outside => false
  | .receiving => false
  | .responding left => (left.getD (clocks / 8) 0#8).getLsbD (7 - clocks % 8)

/-- The host gives link clocks: MDO carries their bits (R168). -/
def State.sendMdo (s : State) (clocks : Nat) : State :=
  { s with mdoSent := s.mdoSent ++ (List.range clocks).map s.frame.mdo }

/-- Select is released: the MLC stands outside any frame, and what was not sent is lost (R168, R170). -/
def State.releaseSelect (s : State) : State := { s with select := false, frame := .outside }

/-- The host clocks `n` bytes in a frame whose command has been carried out: MDI is ignored, and MDO carries the next bytes of
the reply, then zero (R170). -/
def clockBytes (n : Nat) (left : List Byte) (s : State) : State :=
  { s.sendMdo (8 * n) with frame := .responding (left.drop n) }

/-- FRAME_START (R168): select is asserted, and a frame begins, unless PWR_RESET is asserted. -/
def execFrameStart (s : State) : Host.Outcome State Fault Refusal :=
  if s.select then .next s
  else .next { s with select := true, frame := if s.pwrReset then .outside else .receiving }

/-- FRAME_END (R168, R170): the host clocks what is left of the response and releases select, in the trailing phase; outside
any frame a select that PWR_RESET found asserted is first seen released. -/
def execFrameEnd (s : State) : Host.Outcome State Fault Refusal :=
  match s.frame with
  | .outside => .next s.releaseSelect
  | .receiving => .next s
  | .responding left => .next (s.sendMdo (8 * left.length)).releaseSelect

/-- FRAME_ABORT (R169): select is released before the last argument bit, and the frame is discarded. Outside any frame it is
the release of select alone. -/
def execFrameAbort (s : State) : Host.Outcome State Fault Refusal :=
  match s.frame with
  | .outside => .next s.releaseSelect
  | .receiving => .next s.releaseSelect
  | .responding _ => .next s

/-- RESPONSE_CUT (R170): select is released during the response phase; what was not sent is lost. Outside any frame it is the
release of select alone. -/
def execResponseCut (s : State) : Host.Outcome State Fault Refusal :=
  match s.frame with
  | .outside => .next s.releaseSelect
  | .receiving => .next s
  | .responding _ => if s.frame.phase 0 = some .response then .next s.releaseSelect else .next s

/-! ### The tests of a command (R171) -/

/-- The answer of a command: its status byte, then its reply data (R170). -/
def answerLink (status : LinkStatus) (data : List Byte) (s : State) : Host.Outcome State Fault Refusal :=
  finish { s with frame := .responding (status.byte :: data) }

/-- A command is pending (R172). -/
def PendingCmd.isPending : PendingCmd → Bool
  | .pending _ => true
  | .idle => false
  | .complete _ => false

/-- A command is decided when a frame has carried it (R168): BUSY while a command is pending, unless it is one of the three
that are always carried out; BADARG when an argument fails its encoding check (`none`); otherwise it is carried out, with
its status and reply data (R171). -/
def decideLink (always : Bool) (body : State → Option (State × LinkStatus × List Byte)) (s : State) :
    Host.Outcome State Fault Refusal :=
  if s.pendingCmd.isPending && !always then answerLink .busy [] s
  else match body s with
    | none => answerLink .badArg [] s
    | some (t, status, data) => answerLink status data t

/-- The bytes of a command of the link: the command byte, then the argument bytes its code fixes (R168). -/
def frameBytes (code : Byte) : Nat := 1 + (argumentBytes code).getD 0

/-- The bytes of a command are clocked in: a frame that is being received is decided at the last of them (R169); a frame whose
command has been carried out ignores them (R170); outside any frame they are no bytes (R168). -/
def carryOut (always : Bool) (code : Byte) (body : State → Option (State × LinkStatus × List Byte)) (s : State) :
    Host.Outcome State Fault Refusal :=
  match s.frame with
  | .outside => .next s
  | .receiving => decideLink always body s
  | .responding left => .next (clockBytes (frameBytes code) left s)

/-- UNKNOWN_COMMAND (R171): a code that names no command is answered BADCMD. -/
def execUnknownCommand (code : Byte) (s : State) : Host.Outcome State Fault Refusal :=
  if unknownCode code then
    match s.frame with
    | .outside => .next s
    | .receiving => answerLink .badCmd [] s
    | .responding left => .next (clockBytes 1 left s)
  else .next s

/-! ### IDENTIFY and STATUS -/

/-- IDENTIFY (R174). -/
def execIdentify (s : State) : Host.Outcome State Fault Refusal :=
  carryOut true 0x01#8 (fun s => some (s, .done, s.identifyReply)) s

/-- STATUS (R173). -/
def execStatus (s : State) : Host.Outcome State Fault Refusal :=
  carryOut true 0x02#8 (fun s => some (s, .done, s.statusReply)) s

/-! ### The Aperture Table -/

/-- Replace an entry of the Aperture Table. -/
def State.setAperture (s : State) (k : ApId) (a : Aperture) : State := { s with apertures := s.apertures.set k a }

/-- APERTURE_READ (R117). -/
def execApertureRead (entry : Byte) (s : State) : Host.Outcome State Fault Refusal :=
  carryOut false 0x10#8 (fun s => (index16? entry).map (fun k => (s, .done, (s.apertures[k]).reply))) s

/-- The write of a disabled entry, or DENIED with a record that names no queue (R118). -/
def writeAperture (k : ApId) (a : Aperture) (s : State) : State × LinkStatus × List Byte :=
  if (s.apertures[k]).enabled then (s.recordDenied none, .denied, []) else (s.setAperture k a, .done, [])

/-- APERTURE_WRITE (R118). -/
def execApertureWrite (entry : Byte) (im : ApertureImage) (s : State) : Host.Outcome State Fault Refusal :=
  carryOut false 0x11#8 (fun s =>
    match index16? entry, apertureEntry? im with
    | some k, some a => some (writeAperture k a s)
    | _, _ => none) s

/-- The entry is valid against the part as it stands (R119). -/
def State.validEntry (s : State) (a : Aperture) : Bool :=
  decide (6 ≤ a.sizeExp.toNat) && decide (a.sizeExp.toNat ≤ 32) && decide (a.base.toNat % a.size = 0) &&
    (match a.kind with
      | .queue => decide (a.size = suitedSize (s.queue a.queue).config.cellLen)
      | .summary => true
      | .merge => decide (a.targetBase.toNat % a.size = 0))

/-- The enabling of an entry: DONE when it is enabled or valid, otherwise BADARG with no record (R119). -/
def enableAperture (k : ApId) (s : State) : State × LinkStatus × List Byte :=
  let a := s.apertures[k]
  if a.enabled then (s, .done, [])
  else if s.validEntry a then (s.setAperture k { a with enabled := true }, .done, [])
  else (s, .badArg, [])

/-- APERTURE_ENABLE (R119). -/
def execApertureEnable (entry : Byte) (s : State) : Host.Outcome State Fault Refusal :=
  carryOut false 0x12#8 (fun s => (index16? entry).map (fun k => enableAperture k s)) s

/-- APERTURE_DISABLE (R120). -/
def execApertureDisable (entry : Byte) (s : State) : Host.Outcome State Fault Refusal :=
  carryOut false 0x13#8 (fun s =>
    (index16? entry).map (fun k => (s.setAperture k { s.apertures[k] with enabled := false }, .done, []))) s

/-! ### Queue commands (chapter 6) -/

/-- QUEUE_CONFIG_READ (R106). -/
def execQueueConfigRead (queue : Byte) (s : State) : Host.Outcome State Fault Refusal :=
  carryOut false 0x20#8 (fun s => (index16? queue).map (fun q => (s, .done, (s.queue q).config.reply))) s

/-- No binding of either table names the queue (R105). -/
def State.unbound (s : State) (q : QueueId) : Bool :=
  s.putTable.toList.all (fun b => !b.any (fun b => b.names q)) &&
    s.takeTable.toList.all (fun b => !b.any (fun b => decide (b.queue = q)))

/-- The write of a queue's configuration: accepted for a DISABLED queue that no binding names and whose holding the new Limit
covers, the commit sequence counter going to 0; otherwise DENIED with a record that names the queue (R105, R106). -/
def writeConfig (q : QueueId) (c : QueueConfig) (s : State) : State × LinkStatus × List Byte :=
  if (s.queue q).state = .rest .disabled ∧ s.unbound q = true ∧ s.holding q ≤ c.limit then
    (s.updQueue q (fun x => { x with config := c, nextSeq := 0#16 }), .done, [])
  else (s.recordDenied (some q), .denied, [])

/-- QUEUE_CONFIG_WRITE (R105, R106). -/
def execQueueConfigWrite (queue : Byte) (im : ConfigImage) (s : State) : Host.Outcome State Fault Refusal :=
  carryOut false 0x21#8 (fun s =>
    match index16? queue, queueConfig? im with
    | some q, some c => some (writeConfig q c s)
    | _, _ => none) s

/-- The state a queue is enabled into; a FLUSHING queue, which no enable reaches, stays as it is (R102; log 16). -/
def QueueState.enabled : QueueState → QueueState
  | .rest _ => .rest .enabled
  | .flushing prior => .flushing prior

/-- The enabling of a queue, or DENIED with a record that names it when N is 0 (R102). -/
def enableQueue (q : QueueId) (s : State) : State × LinkStatus × List Byte :=
  if s.poolSize = 0 then (s.recordDenied (some q), .denied, [])
  else (s.updQueue q (fun x => { x with state := x.state.enabled }), .done, [])

/-- QUEUE_ENABLE (R102). -/
def execQueueEnable (queue : Byte) (s : State) : Host.Outcome State Fault Refusal :=
  carryOut false 0x22#8 (fun s => (index16? queue).map (fun q => enableQueue q s)) s

/-- Release the held requests of a queue in arrival-list order (R99, R100). -/
def releaseHeld (q : QueueId) (f : SlotId → Slot → State → State) (s : State) : State :=
  s.arrival.foldl (fun s k => match s.slots[k] with
    | some x => if x.queue = q then f k x s else s
    | none => s) s

/-- A held request is released by a disable: a take is answered empty, counting an underrun, a put FAULT (DISABLED)
(R99). -/
def releaseDisabled (k : SlotId) (x : Slot) (s : State) : State :=
  let s := s.vacate k
  match x.kind with
  | .take => respond x.init .ok (s.emptyData x.queue x.req) (s.raiseUnderrun x.queue)
  | .put => respondFault .disabled x.init x.req.addr (some x.access.aperture) (some x.queue) [] s

/-- The disabling of a queue; only an ENABLED one changes (R103). -/
def disableQueue (q : QueueId) (s : State) : State :=
  if (s.queue q).state = .rest .enabled then
    releaseHeld q releaseDisabled (s.updQueue q (fun x => { x with state := .rest .disabled }))
  else s

/-- QUEUE_DISABLE (R103). -/
def execQueueDisable (queue : Byte) (s : State) : Host.Outcome State Fault Refusal :=
  carryOut false 0x23#8 (fun s => (index16? queue).map (fun q => (disableQueue q s, .done, []))) s

/-- A held request is released by the start of a flush: FAIL, a take with the empty pattern (R100). -/
def releaseFlushed (k : SlotId) (x : Slot) (s : State) : State :=
  let s := s.vacate k
  respond x.init .fail (s.emptyData x.queue x.req) s

/-- The queue becomes FLUSHING and remembers its prior state (R108). -/
def QueueState.flushed : QueueState → QueueState
  | .rest r => .flushing r
  | .flushing prior => .flushing prior

/-- The start of a flush: FLUSHING, the held requests released, the MLC's pending command (R108). -/
def startFlush (q : QueueId) (s : State) : State :=
  let s := s.updQueue q (fun x => { x with state := x.state.flushed })
  { releaseHeld q releaseFlushed s with pendingCmd := .pending q }

/-- A flush: DONE when the completion is taken at its start, otherwise PENDING (R108). -/
def flushQueue (q : QueueId) (s : State) : State × LinkStatus × List Byte :=
  let s := startFlush q s
  if s.flushDone q then (completeFlush q s, .done, []) else (s, .pending, [])

/-- QUEUE_FLUSH (R108). -/
def execQueueFlush (queue : Byte) (s : State) : Host.Outcome State Fault Refusal :=
  carryOut false 0x24#8 (fun s => (index16? queue).map (fun q => flushQueue q s)) s

/-- QUEUE_STATE_READ (R177). -/
def execQueueStateRead (queue : Byte) (s : State) : Host.Outcome State Fault Refusal :=
  carryOut true 0x25#8 (fun s => (index16? queue).map (fun q => (s, .done, s.queueReply q))) s

/-- COUNTERS_CLEAR (R107). -/
def execCountersClear (queue : Byte) (s : State) : Host.Outcome State Fault Refusal :=
  carryOut false 0x26#8 (fun s => (index16? queue).map (fun q =>
    (s.updQueue q (fun x => { x with lost := 0#16, underrun := 0#16, expired := 0#16, divertedOut := 0#16 }),
      .done, []))) s

/-- EVENTS_CLEAR (R149). -/
def execEventsClear (queue selection : Byte) (s : State) : Host.Outcome State Fault Refusal :=
  carryOut false 0x27#8 (fun s =>
    match index16? queue, selection? selection with
    | some q, some sel => some (s.updFlags q (fun f => f.clear sel), .done, [])
    | _, _ => none) s

/-! ### The pool, the tick, the steering state, the lines, the fault log -/

/-- The pool is replaced: cells 0 to N−1 FREE, in the Free List in ascending order (R2). -/
def buildPool (base : Addr) (n : Nat) (guardOn : Bool) (s : State) : State :=
  { s with arenaBase := base, poolSize := n, guardOn := guardOn, cells := List.replicate n Cell.freed,
           freeList := List.range n }

/-- The configuration of the pool, or DENIED while steering is ON or some cell is not FREE (R175). -/
def configPool (base : Addr) (n : Nat) (guardOn : Bool) (s : State) : State × LinkStatus × List Byte :=
  if s.steering = .off ∧ s.cells.all (fun x => decide (x.state = .free)) = true then
    (buildPool base n guardOn s, .done, [])
  else (s.recordDenied none, .denied, [])

/-- POOL_CONFIG (R2, R175). -/
def execPoolConfig (base : Addr) (cells : BitVec 16) (guardEnable : Byte) (s : State) :
    Host.Outcome State Fault Refusal :=
  carryOut false 0x30#8 (fun s =>
    match arenaBase? base, poolSize? cells, switch? guardEnable with
    | some b, some n, some g => some (configPool b n g s)
    | _, _, _ => none) s

/-- TICK_CONFIG (R88): a new interval, and the tick in progress restarts. -/
def execTickConfig (intervalMinusOne : BitVec 16) (s : State) : Host.Outcome State Fault Refusal :=
  carryOut false 0x31#8 (fun s =>
    some ({ s with tickInterval := intervalMinusOne.toNat + 1, tickElapsed := 0 }, .done, [])) s

/-- STEER_ON (R115). -/
def execSteerOn (s : State) : Host.Outcome State Fault Refusal :=
  carryOut false 0x32#8 (fun s => some ({ s with steering := .on }, .done, [])) s

/-- A request decoded under ON as steered or as refused (R116). -/
def Decoded.steered : Decoded → Bool
  | .passThrough => false
  | .refused _ _ _ => true
  | .queue _ => true
  | .summary _ _ => true
  | .merge _ _ _ _ => true

/-- The part is quiet (R116). -/
def State.quiet (s : State) : Bool :=
  s.putTable.toList.all (fun b => b.isNone) && s.takeTable.toList.all (fun b => b.isNone) &&
    s.slots.toList.all (fun x => x.isNone) && s.locks.isEmpty && s.queues.toList.all (fun x => !x.isFlushing) &&
    s.channels.toList.all (fun l => l.all (fun e => !e.decoded.steered)) && !s.drain

/-- STEER_OFF (R116): DONE when steering is OFF already or the part is quiet, otherwise BUSY. -/
def execSteerOff (s : State) : Host.Outcome State Fault Refusal :=
  carryOut false 0x33#8 (fun s =>
    some (if s.steering = .off then (s, .done, [])
      else if s.quiet then ({ s with steering := .off }, .done, [])
      else (s, .busy, []))) s

/-- LINE_CONFIG (R151). -/
def execLineConfig (routing : Byte) (s : State) : Host.Outcome State Fault Refusal :=
  carryOut false 0x34#8 (fun s => (routing? routing).map (fun l => ({ s with faultRouting := l }, .done, []))) s

/-- FAULT_PEEK (R154). -/
def execFaultPeek (s : State) : Host.Outcome State Fault Refusal :=
  carryOut false 0x40#8 (fun s => some (s, .done, s.faultReply)) s

/-- The oldest record leaves the log; the overflow count goes to 0 when the log becomes empty (R155). -/
def dropRecord (s : State) : State :=
  match s.log with
  | [] => s
  | _ :: rest => if rest.isEmpty then { s with log := rest, overflow := 0#8 } else { s with log := rest }

/-- FAULT_DROP (R155). -/
def execFaultDrop (s : State) : Host.Outcome State Fault Refusal :=
  carryOut false 0x41#8 (fun s => some (dropRecord s, .done, [])) s

end Sys2Proof.Machine
end

