-- ==== Sys2Proof/Machine/Merging.lean ====
section
/-! DEFINITION. Merge apertures and the memory port's own steps: MERGE_READ, MERGE_WRITE and the stages of a merge beat,
LOCK_WAITER_RELEASE and MEMORY_PRESENT (chapter 8, section 10.3). -/

namespace Sys2Proof.Machine

/-- A merge request as the MU sees it: the request, the operation, the mask, the translated start address and the aperture
index copied at decode (R121, R131). -/
structure MergeAccess where
  req      : Request
  op       : MergeOp
  mask     : Word
  target   : Addr
  aperture : ApId
deriving DecidableEq, Repr

/-- The merge access of an accepted request decoded to the MU (R121). -/
def Accepted.merge? (e : Accepted) : Option MergeAccess :=
  match e with
  | { req := r, decoded := .merge op mask target k } =>
    some { req := r, op := op, mask := mask, target := target, aperture := k }
  | _ => none

/-- The current merge request of an initiator that the MU has not taken (R158). -/
def State.mergeRequest (s : State) (i : InitId) : Option MergeAccess := (s.current i).bind Accepted.merge?

/-- The merge request of an initiator that the MU is performing (R158). -/
def State.merging (s : State) (i : InitId) : Option MergeAccess := (s.performing i).bind Accepted.merge?

/-- The MEMORY or ADD_PARTIAL fault of a merge request: the record names no queue, a read carries zero (R133, R134, R140). -/
def mergeFault (kind : FaultKind) (i : InitId) (m : MergeAccess) (s : State) : State :=
  respondFault kind i m.req.addr (some m.aperture) none (m.req.body.fill 0#64) s

/-- The initiator's latch may no longer satisfy a conditional store (R136). Its address and value, meaningful only while
valid, are left as they stand (DESIGN CHOICE, log 15). -/
def invalidate (i : InitId) (s : State) : State := s.setLatch i { s.latches[i] with valid := false }

/-! ### Merge reads -/

/-- MERGE_READ (R133): one memory read of the translated words, through the lock test, without a lock. -/
def execMergeRead (i : InitId) (s : State) : Host.Outcome State Fault Refusal :=
  match s.mergeRequest i with
  | some m =>
    if m.req.body.isWrite then .next s
    else .next (handOver { addr := m.target, body := m.req.body, owner := .mergeRead i, fate := .live } (s.take i))
  | none => .next s

/-- MERGE_READ_ACK (R133): OK with the data, the latch loaded with the last beat, or FAULT (MEMORY) with zero. -/
def execMergeReadAck (beats : List MemBeat) (s : State) : Host.Outcome State Fault Refusal :=
  match s.ackLive beats with
  | some { owner := .mergeRead i, .. } =>
    match s.merging i with
    | some m =>
      match beats.getLast? with
      | some b =>
        if anyError beats then finish (mergeFault .memory i m (retireHead s))
        else
          finish (respond i .ok (m.req.body.returned beats)
            ((retireHead s).setLatch i
              { valid := true, addr := beatAddr m.target (beats.length - 1), value := b.data }))
      | none => .next s
    | none => .next s
  | _ => .next s

/-! ### Merge writes -/

/-- MERGE_WRITE (R134): the ADD_PARTIAL test, then beat 0. -/
def execMergeWrite (i : InitId) (s : State) : Host.Outcome State Fault Refusal :=
  match s.mergeRequest i with
  | some m =>
    if m.req.body.isWrite then
      if decide (m.op = .add) && partialStrobes m.req.body then finish (invalidate i (mergeFault .addPartial i m s))
      else .next ((s.take i).setMerge i (some { beat := 0, stage := .arriving }))
    else .next s
  | none => .next s

/-- The merge request of an initiator and its beat in progress, when the beat stands at a stage (R137). -/
def State.beatAt (s : State) (i : InitId) (stage : BeatStage) : Option (MergeAccess × Nat) :=
  match s.merging i, s.merges[i] with
  | some m, some b => if b.stage = stage then some (m, b.beat) else none
  | _, _ => none

/-- The beat passes to a stage (R137). -/
def setStage (i : InitId) (stage : BeatStage) (s : State) : State :=
  s.setMerge i (s.merges[i].map (fun m => { m with stage := stage }))

/-- MERGE_BEAT_LOCK (R137, R138): the beat reaches the lock set. It takes a lock on its translated word, or joins the waiting
list. -/
def execMergeBeatLock (i : InitId) (s : State) : Host.Outcome State Fault Refusal :=
  match s.beatAt i .arriving with
  | some (m, j) =>
    let word := beatAddr m.target j
    if mayLock s.locks s.waiting word then .next (takeLock i word s)
    else .next { setStage i .waiting s with waiting := s.waiting ++ [.beat i word] }
  | none => .next s

/-- Every access that overlaps the word and was handed to the MP has been acknowledged (R137, stage 2). While the lock is
held no other access to the word is handed over (R138), so what remains was handed over before it. -/
def State.wordQuiet (s : State) (word : Addr) : Bool := (s.issueQ ++ s.outstanding).all (fun r => !r.touches word)

/-- MERGE_BEAT_READ_ISSUE (R137): the locked beat issues its one-beat read. -/
def execMergeBeatReadIssue (i : InitId) (s : State) : Host.Outcome State Fault Refusal :=
  match s.beatAt i .locked with
  | some (m, j) =>
    let word := beatAddr m.target j
    if s.wordQuiet word then
      .next (issue { addr := word, body := .read 1, owner := .beatRead i, fate := .live } (setStage i .reading s))
    else .next s
  | none => .next s

/-- A merge write ends: its beat's lock is released with the waiting list settled, the latch is invalidated (R136, R137). -/
def endMerge (i : InitId) (s : State) : State := releaseLock i (s.setMerge i none)

/-- The lock entry of the beat passes to stage WRITING (R137). -/
def lockWriting (i : InitId) (s : State) : State :=
  { s with locks := s.locks.map (fun l => if l.init = i then { l with stage := .writing } else l) }

/-- The read of merge beat j has returned the old value: a COND whose comparison fails ends the request with FAIL, otherwise
the new value is written with all strobes set (R134, R135). -/
def beatComputed (i : InitId) (m : MergeAccess) (j : Nat) (old : Word) (s : State) : State :=
  let word := beatAddr m.target j
  let b := m.req.body.beat j
  if decide (m.op = .cond) && !condHolds s.latches[i] word old then invalidate i (respond i .fail [] (endMerge i s))
  else
    issue { addr := word, owner := .beatWrite i, fate := .live,
            body := .write [{ data := mergeValue m.op old b.data (effectiveMask m.mask b.strobes), strobes := 0xFF#8 }] }
      (lockWriting i (setStage i .writing s))

/-- MERGE_BEAT_READ_ACK (R137, R140): a read error ends the request, and leaves the latch only if the beat was beat 0
(R136). -/
def execMergeBeatReadAck (beats : List MemBeat) (s : State) : Host.Outcome State Fault Refusal :=
  match s.ackLive beats with
  | some { owner := .beatRead i, .. } =>
    match s.beatAt i .reading, beats with
    | some (m, j), [b] =>
      if b.error then
        let t := mergeFault .memory i m (endMerge i (retireHead s))
        finish (if j = 0 then t else invalidate i t)
      else finish (beatComputed i m j b.data (retireHead s))
    | _, _ => .next s
  | _ => .next s

/-- MERGE_BEAT_WRITE_ACK (R134, R137, R141): the lock is released; an error or the last beat ends the request. -/
def execMergeBeatWriteAck (beats : List MemBeat) (s : State) : Host.Outcome State Fault Refusal :=
  match s.ackLive beats with
  | some { owner := .beatWrite i, .. } =>
    match s.beatAt i .writing with
    | some (m, j) =>
      let t := endMerge i (retireHead s)
      if anyError beats then finish (invalidate i (mergeFault .memory i m t))
      else if j + 1 < m.req.body.count then .next (t.setMerge i (some { beat := j + 1, stage := .arriving }))
      else finish (invalidate i (respond i .ok [] t))
    | none => .next s
  | _ => .next s

/-- LOCK_WAITER_RELEASE (R139): the MU goes through its waiting list. Every release of a lock does so in its own step. -/
def execLockWaiterRelease (s : State) : Host.Outcome State Fault Refusal := .next (settleWaiters s)

/-- MEMORY_PRESENT (R163): the MP presents the earliest issued request that the limit and the overlap hold allow. -/
def execMemoryPresent (s : State) : Host.Outcome State Fault Refusal := .next (present s)

end Sys2Proof.Machine
end

