-- ==== Sys2Proof/Machine/Resets.lean ====
section
/-! DEFINITION. SYS_RESET and PWR_RESET, the reset drain, and the acknowledgements of requests a reset has discarded
(sections 1.8, 3.9, 5.8, 8.6, 10.4, 11.7). -/

namespace Sys2Proof.Machine

/-! ### A discarded QE access -/

/-- A count that a discarded QE access raised falls by 1; a retired cell whose last pin falls joins the Free List tail
(R25, R166). -/
def dropAccess (x : CellAccess) (s : State) : State :=
  match x.use with
  | .peek => (releasePin x.cell s).1
  | .compose _ => decFlight x.cell s
  | .putRead => decFlight x.cell s
  | .take _ => decFlight x.cell s

/-- The QE access of a waiting access on the MU is taken as acknowledged and discarded (R166). -/
def dropWaiter (s : State) (w : Waiter) : State :=
  match w with
  | .access { owner := .cell x, .. } => dropAccess x s
  | .access _ => s
  | .beat _ _ => s

/-! ### SYS_RESET (R25, R70, R101, R143, R166) -/

/-- The cell of an ACTIVE put binding becomes FREE and is appended, and its target's open count falls (R25, step 1). Its
in-flight count stands until its discarded access is acknowledged (R25, step 6; DEDUCED, log 14). -/
def freeBound (s : State) (e : EntryId) : State :=
  match s.putTable[e] with
  | some b =>
    match b.state with
    | .active c =>
      decOpen b.target
        { s.updCell c (fun x => { Cell.freed with inFlight := x.inFlight }) with freeList := s.freeList ++ [c] }
    | .phantom => s
    | .voided => s
  | none => s

/-- The cell of an ACTIVE take binding becomes QUEUED in its place (R25, step 3). -/
def requeueBound (s : State) (e : EntryId) : State :=
  match s.takeTable[e] with
  | some b =>
    match b.state with
    | .active c => s.updCell c (fun x => { x with state := .queued })
    | .voided => s
  | none => s

/-- The QE's tables at SYS_RESET: the put bindings in ascending order with their OPEN cells, the take bindings, and the reset
drain (R25, steps 1 to 5). -/
def resetTables (s : State) : State :=
  let s := upTo16.foldl freeBound s
  let s := upTo16.foldl requeueBound s
  { s with putTable := Vector.replicate 16 none, takeTable := Vector.replicate 16 none, drain := true }

/-- A request is marked discarded; one that PWR_RESET left outstanding keeps its mark (R166, R167). -/
def discard (r : MemReq) : MemReq :=
  match r.fate with
  | .live => { r with fate := .discarded }
  | .discarded => r
  | .dropped => r

/-- The units around the QE at SYS_RESET: the SP empties the channels (R166), the WU frees its slots (R101), the MU frees its
locks, abandons its merges and invalidates its latches (R143), the MP marks its requests (R166). -/
def resetUnits (s : State) : State :=
  { s with channels := Vector.replicate 8 [], taken := Vector.replicate 8 false,
           slots := Vector.replicate 8 none, arrival := [],
           locks := [], waiting := [], merges := Vector.replicate 8 none,
           latches := mapTable (fun l => { l with valid := false }) s.latches,
           issueQ := s.issueQ.map discard, outstanding := s.outstanding.map discard }

/-! ### The end of the reset drain (R25, steps 5 to 9) -/

/-- A memory request is a discarded access of the QE (R25). -/
def MemReq.discardedCell (r : MemReq) : Bool :=
  match r.owner with
  | .cell _ => decide (r.fate = .discarded)
  | .passThrough _ => false
  | .mergeRead _ => false
  | .beatRead _ => false
  | .beatWrite _ => false

/-- The wait of the reset drain is over: no access issued before the reset is unacknowledged, every count is 0 (R25, steps 5
and 8). -/
def State.drained (s : State) : Bool :=
  (s.issueQ ++ s.outstanding).all (fun r => !r.discardedCell) &&
    s.cells.all (fun x => decide (x.inFlight = 0) && decide (x.pins = 0))

/-- The QE's SYS_RESET handling ends: the pending flushes complete, the drain is clear (R25, steps 8 and 9). -/
def endDrain (s : State) : State := upTo16.foldl (fun s q => tryFlush q s) { s with drain := false }

/-- The handling ends in the step in which its wait ends (R25, R110, R113): that of the last acknowledgement it awaits, or that
of SYS_RESET_ASSERT where it awaits none (DEDUCED, log 8). -/
def settleDrain (s : State) : State := if s.drain && s.drained then endDrain s else s

/-! ### SYS_RESET_ASSERT and SYS_RESET_RELEASE -/

/-- SYS_RESET is asserted: the WU's and MU's handling first, then the QE's (R101), then the QE accesses that waited on the
MU (R166); where no acknowledgement is awaited the QE's handling ends here (R25). -/
def assertSysReset (s : State) : State :=
  settleDrain (s.waiting.foldl dropWaiter (resetTables (resetUnits { s with sysReset := true })))

/-- SYS_RESET_ASSERT (R25). While PWR_RESET is asserted only the pin changes (DEDUCED, log 18); a pin already asserted is not
asserted again. -/
def execSysResetAssert (s : State) : Host.Outcome State Fault Refusal :=
  if s.sysReset then .next s
  else if s.pwrReset then .next { s with sysReset := true }
  else finish (assertSysReset s)

/-- SYS_RESET_RELEASE (R166): the SP takes offers again. -/
def execSysResetRelease (s : State) : Host.Outcome State Fault Refusal := .next { s with sysReset := false }

/-! ### RESET_DRAIN_END and DISCARDED_ACK -/

/-- RESET_DRAIN_END (R25). The step in which the wait ends makes this step; as a command of its own it makes the same step,
where a drain is set that awaits nothing (DEDUCED, log 8). -/
def execResetDrainEnd (s : State) : Host.Outcome State Fault Refusal :=
  if s.drain && s.drained then finish (endDrain s) else .next s

/-- DISCARDED_ACK (R166, R167): the acknowledgement of a discarded request is dropped, and only the count a QE access raised
is lowered; that of a request PWR_RESET left outstanding changes no count. The last that the reset drain awaits ends it
(R25). -/
def execDiscardedAck (beats : List MemBeat) (s : State) : Host.Outcome State Fault Refusal :=
  match s.acknowledged beats with
  | some r =>
    match r.fate with
    | .live => .next s
    | .dropped => .next (retireHead s)
    | .discarded =>
      match r.owner with
      | .cell x => finish (settleDrain (dropAccess x (retireHead s)))
      | .passThrough _ => .next (retireHead s)
      | .mergeRead _ => .next (retireHead s)
      | .beatRead _ => .next (retireHead s)
      | .beatWrite _ => .next (retireHead s)
  | none => .next s

/-! ### PWR_RESET (R167 and the reset values of every block) -/

/-- PWR_RESET is asserted: every piece of state takes its power-on value. What the part does not hold stays: the offers of
the initiators, the levels of SYS_RESET and of MSEL, the responses and link bits already sent and the commands waiting; the
requests presented to memory stay outstanding, marked so that their acknowledgements are dropped (R167). -/
def assertPwrReset (s : State) : State :=
  { State.reset with
      pwrReset := true, sysReset := s.sysReset, offers := s.offers, responses := s.responses,
      select := s.select, mdoSent := s.mdoSent, pending := s.pending,
      outstanding := s.outstanding.map (fun r => { r with fate := .dropped }) }

/-- PWR_RESET_ASSERT (R167). -/
def execPwrResetAssert (s : State) : Host.Outcome State Fault Refusal := .next (assertPwrReset s)

/-- PWR_RESET_RELEASE (R87, R167): the first tick begins, and the SP accepts requests. -/
def execPwrResetRelease (s : State) : Host.Outcome State Fault Refusal :=
  if s.pwrReset then .next { s with pwrReset := false, tickElapsed := 0 } else .next s

end Sys2Proof.Machine
end

