-- ==== Sys2Proof/Machine/SystemPort.lean ====
section
/-! DEFINITION. The commands of the system port: REQUEST_ACCEPT, AD_REFUSAL_ANSWER, PASS_THROUGH, PASS_THROUGH_ACK and
SUMMARY_READ, with the summary word. A command whose event cannot take place changes nothing (DESIGN CHOICE, log 1). -/

namespace Sys2Proof.Machine

/-- REQUEST_ACCEPT (R157): the initiator offers a request, if one is given, and the SP takes its oldest waiting offer. -/
def execRequestAccept (i : InitId) (offer : Option Request) (s : State) : Host.Outcome State Fault Refusal :=
  match offer with
  | none => .next (acceptOffer i s)
  | some r => if r.wf then .next (acceptOffer i (offerRequest i r s)) else .next s

/-- AD_REFUSAL_ANSWER (R122): FAULT with zero in every data beat, and one record with the fields of the refusal. -/
def execAdRefusalAnswer (i : InitId) (s : State) : Host.Outcome State Fault Refusal :=
  match s.current i with
  | some { req := r, decoded := .refused kind aperture queue } =>
    finish (respondFault kind i r.addr aperture queue (r.body.fill 0#64) s)
  | _ => .next s

/-- The memory request of a pass-through request: the same kind, address, beats, data and strobes (R130, R161). -/
def passRequest (i : InitId) (r : Request) : MemReq :=
  { addr := r.addr, body := r.body, owner := .passThrough i, fate := .live }

/-- PASS_THROUGH (R161): the current request goes to the MP unchanged, through the lock test. -/
def execPassThrough (i : InitId) (s : State) : Host.Outcome State Fault Refusal :=
  match s.current i with
  | some { req := r, decoded := .passThrough } => .next (handOver (passRequest i r) (s.take i))
  | _ => .next s

/-- PASS_THROUGH_ACK (R161, R162): OK with the data, or FAULT without a record, zero in each erring beat. -/
def execPassThroughAck (beats : List MemBeat) (s : State) : Host.Outcome State Fault Refusal :=
  match s.ackLive beats with
  | some { owner := .passThrough i, .. } =>
    match s.performing i with
    | some e =>
      .next (respond i (if anyError beats then .fault else .ok) (e.req.body.returnedOrZero beats) (retireHead s))
    | none => .next s
  | _ => .next s

/-- The READY set of a summary word: the reported queues whose READY the NU holds set (R129). -/
def State.readySet (s : State) (reported : BitVec 16) : List QueueId :=
  upTo16.filter (fun q => reported.getLsbD q.val && (s.flags[q]).ready)

/-- The summary word (R129, section 13.5). -/
def State.summaryWord (s : State) (reported : BitVec 16) : Word :=
  let ready := s.readySet reported
  ready.foldl (fun w q => w ||| bitAt true q.val) 0#64 |||
    (match ready with
      | q :: _ => fieldAt q.val 16
      | [] => bitAt true 24) |||
    bitAt (!s.log.isEmpty) 32

/-- SUMMARY_READ (R129): OK with the summary word of this moment in every data beat. -/
def execSummaryRead (i : InitId) (s : State) : Host.Outcome State Fault Refusal :=
  match s.current i with
  | some { req := r, decoded := .summary reported _ } => .next (respond i .ok (r.body.fill (s.summaryWord reported)) s)
  | _ => .next s

end Sys2Proof.Machine
end

