-- ==== Sys2Proof/Machine/Taking.lean ====
section
/-! DEFINITION. Taking messages: TAKE_WINDOW_READ with the first take, the acknowledgements of take reads with retirement,
PEEK_READ and PEEK_ACK (chapter 3). -/

namespace Sys2Proof.Machine

/-- The first take, its tests in order (R53). -/
def firstTake (i : InitId) (r : Request) (a : QueueAccess) (s : State) : State :=
  match (s.queue a.queue).state with
  | .rest .disabled => queueFault .disabled i r a (s.emptyData a.queue r) s
  | .flushing _ => respond i .fail (s.emptyData a.queue r) s
  | .rest .enabled =>
    match s.freeTake with
    | none => queueFault .noBinding i r a (s.emptyData a.queue r) s
    | some e =>
      match s.oldest a.queue with
      | some c => bindTake i r a e c (s.take i)
      | none =>
        if (s.queue a.queue).config.takeWait = 0#16 then
          respond i .ok (s.emptyData a.queue r) (s.raiseUnderrun a.queue)
        else park .take i r a (s.queue a.queue).config.takeWait s

/-- A read through an existing take binding (R58, R65). -/
def boundTake (i : InitId) (r : Request) (a : QueueAccess) (e : EntryId) (b : TakeBinding) (s : State) : State :=
  match b.state with
  | .active c =>
    if (s.queue a.queue).isFlushing then respond i .fail (s.emptyData a.queue r) s else takeRead i r a c (s.take i)
  | .voided =>
    respond i .fail (s.emptyData a.queue r) (if a.closing r.body.count then s.setTake e none else s)

/-- The QE takes a read of a take window (R50, R126). -/
def takeWindowRead (i : InitId) (r : Request) (a : QueueAccess) (s : State) : State :=
  if s.stale a then queueFault .boundary i r a (r.body.fill 0#64) s
  else match s.takeBinding i a.queue with
    | none => firstTake i r a s
    | some (e, b) => boundTake i r a e b s

/-- TAKE_WINDOW_READ (R50). A take window is never written (R125). -/
def execTakeWindowRead (i : InitId) (s : State) : Host.Outcome State Fault Refusal :=
  match s.windowRequest .take i with
  | some (r, a) => if r.body.isWrite then .next s else finish (takeWindowRead i r a s)
  | none => .next s

/-- TAKE_READ_ACK (R57, R59): the acknowledgement of a take read that is not closing. -/
def execTakeReadAck (beats : List MemBeat) (s : State) : Host.Outcome State Fault Refusal :=
  match s.cellAck beats with
  | some (x, r, a) => if x.use = .take false then finish (readAck x r a beats s) else .next s
  | none => .next s

/-- Free the take binding keyed by the initiator and the queue (R52). -/
def freeTakeBinding (i : InitId) (q : QueueId) (s : State) : State :=
  match s.takeEntry i q with
  | some e => s.setTake e none
  | none => s

/-- Retirement: the cell leaves the committed list and its binding is freed; with no pin it joins the Free List and the room
is offered, otherwise it stays TAKEN outside the list (R61). -/
def retireCell (x : CellAccess) (s : State) : State :=
  let s := freeTakeBinding x.init x.queue s
  let s := s.updQueue x.queue (fun y => { y with committed := y.committed.erase x.cell })
  if (s.cell x.cell).pins = 0 then offerRoom (appendFree x.cell s) else s

/-- The acknowledgement of a closing read: retirement, or with an error the answer of R59 (R61). The MEMORY record of an
erring read comes before the NO_BINDING records of the held puts that a flush it completes offers room to: R153 takes the
records of one step in either order (DESIGN CHOICE, log 27). Its own response stands before those of the puts that room is
offered to (DESIGN CHOICE, log 28). -/
def closeReadAck (x : CellAccess) (r : Request) (a : QueueAccess) (beats : List MemBeat) (s : State) : State :=
  let owner := (s.cell x.cell).owner
  let s := decFlight x.cell (retireHead s)
  tryFlushOwner owner
    (if anyError beats then memoryFault x r a s
     else retireCell x (respond x.init .ok (r.body.returned beats) s))

/-- CLOSING_READ_ACK (R59, R61). -/
def execClosingReadAck (beats : List MemBeat) (s : State) : Host.Outcome State Fault Refusal :=
  match s.cellAck beats with
  | some (x, r, a) => if x.use = .take true then finish (closeReadAck x r a beats s) else .next s
  | none => .next s

/-! ### The peek window -/

/-- A peek pins the cell and reads it (R68). The access keeps the queue's empty pattern as it stands when the QE takes the
read, which is the one R50 (section 3.1) gives to every read of the chapter. -/
def pinAndRead (i : InitId) (r : Request) (a : QueueAccess) (c : Nat) (s : State) : State :=
  let s := s.updCell c (fun x => { x with pins := x.pins + 1 })
  handOver (cellRequest s r a
    { init := i, cell := c, queue := a.queue, use := .peek, pattern := (s.queue a.queue).config.emptyPattern }) s

/-- The QE takes a read of a peek window (R67, R126). -/
def peekWindowRead (i : InitId) (r : Request) (a : QueueAccess) (s : State) : State :=
  if s.stale a then queueFault .boundary i r a (r.body.fill 0#64) s
  else match (s.queue a.queue).state with
    | .rest .disabled => queueFault .disabled i r a (s.emptyData a.queue r) s
    | .flushing _ => respond i .fail (s.emptyData a.queue r) s
    | .rest .enabled =>
      match s.oldest a.queue with
      | some c => pinAndRead i r a c (s.take i)
      | none => respond i .ok (s.emptyData a.queue r) s

/-- PEEK_READ (R67). A peek window is never written (R125). -/
def execPeekRead (i : InitId) (s : State) : Host.Outcome State Fault Refusal :=
  match s.windowRequest .peek i with
  | some (r, a) => if r.body.isWrite then .next s else finish (peekWindowRead i r a s)
  | none => .next s

/-- The acknowledgement of a peek: its pin falls, a retired cell whose last pin falls joins the Free List and the room is
offered, and the peek is answered (R9, R68). The MEMORY record of an erring peek comes before the NO_BINDING records of the
held puts that the room, or that of a flush it completes, is offered to: R153 takes the records of one step in either order
(DESIGN CHOICE, log 27; of the responses, log 28). -/
def peekAnswer (x : CellAccess) (r : Request) (a : QueueAccess) (beats : List MemBeat) (s : State) : State :=
  let owner := (s.cell x.cell).owner
  let released := releasePin x.cell (retireHead s)
  let s := answerAccess x r a beats released.1
  tryFlushOwner owner (if released.2 then offerRoom s else s)

/-- PEEK_ACK (R68). -/
def execPeekAck (beats : List MemBeat) (s : State) : Host.Outcome State Fault Refusal :=
  match s.cellAck beats with
  | some (x, r, a) => if x.use = .peek then finish (peekAnswer x r a beats s) else .next s
  | none => .next s

end Sys2Proof.Machine
end

