-- ==== Sys2Proof/Machine/Dispatch.lean ====
section
/-! DEFINITION. The effect of every command on everything but the queue of commands: one arm per row of the table. -/

namespace Sys2Proof.Machine

def exec (i : Instr) (s : State) : Host.Outcome State Fault Refusal :=
  match i with
  | .requestAccept init offer => Sys2Proof.Machine.execRequestAccept init offer s
  | .adRefusalAnswer init => Sys2Proof.Machine.execAdRefusalAnswer init s
  | .passThrough init => Sys2Proof.Machine.execPassThrough init s
  | .passThroughAck beats => Sys2Proof.Machine.execPassThroughAck beats s
  | .putWindowWrite init => Sys2Proof.Machine.execPutWindowWrite init s
  | .compositionWriteAck beats => Sys2Proof.Machine.execCompositionWriteAck beats s
  | .closingWriteAck beats => Sys2Proof.Machine.execClosingWriteAck beats s
  | .putWindowRead init => Sys2Proof.Machine.execPutWindowRead init s
  | .putWindowReadAck beats => Sys2Proof.Machine.execPutWindowReadAck beats s
  | .takeWindowRead init => Sys2Proof.Machine.execTakeWindowRead init s
  | .takeReadAck beats => Sys2Proof.Machine.execTakeReadAck beats s
  | .closingReadAck beats => Sys2Proof.Machine.execClosingReadAck beats s
  | .peekRead init => Sys2Proof.Machine.execPeekRead init s
  | .peekAck beats => Sys2Proof.Machine.execPeekAck beats s
  | .abandon init => Sys2Proof.Machine.execAbandon init s
  | .returnWord init => Sys2Proof.Machine.execReturn init s
  | .eventsWrite init => Sys2Proof.Machine.execEventsWrite init s
  | .controlWordWrite init => Sys2Proof.Machine.execControlWordWrite init s
  | .mergeRead init => Sys2Proof.Machine.execMergeRead init s
  | .mergeReadAck beats => Sys2Proof.Machine.execMergeReadAck beats s
  | .mergeWrite init => Sys2Proof.Machine.execMergeWrite init s
  | .mergeBeatLock init => Sys2Proof.Machine.execMergeBeatLock init s
  | .mergeBeatReadIssue init => Sys2Proof.Machine.execMergeBeatReadIssue init s
  | .mergeBeatReadAck beats => Sys2Proof.Machine.execMergeBeatReadAck beats s
  | .mergeBeatWriteAck beats => Sys2Proof.Machine.execMergeBeatWriteAck beats s
  | .lockWaiterRelease => Sys2Proof.Machine.execLockWaiterRelease s
  | .memoryPresent => Sys2Proof.Machine.execMemoryPresent s
  | .discardedAck beats => Sys2Proof.Machine.execDiscardedAck beats s
  | .tickAdvance => Sys2Proof.Machine.execTickAdvance s
  | .heldTakeExpiry init => Sys2Proof.Machine.execHeldTakeExpiry init s
  | .heldPutExpiry init => Sys2Proof.Machine.execHeldPutExpiry init s
  | .heldPutGrant => Sys2Proof.Machine.execHeldPutGrant s
  | .heldTakeService queue => Sys2Proof.Machine.execHeldTakeService queue s
  | .flushCompletion queue => Sys2Proof.Machine.execFlushCompletion queue s
  | .sysResetAssert => Sys2Proof.Machine.execSysResetAssert s
  | .sysResetRelease => Sys2Proof.Machine.execSysResetRelease s
  | .resetDrainEnd => Sys2Proof.Machine.execResetDrainEnd s
  | .pwrResetAssert => Sys2Proof.Machine.execPwrResetAssert s
  | .pwrResetRelease => Sys2Proof.Machine.execPwrResetRelease s
  | .frameAbort => Sys2Proof.Machine.execFrameAbort s
  | .responseCut => Sys2Proof.Machine.execResponseCut s
  | .unknownCommand code => Sys2Proof.Machine.execUnknownCommand code s
  | .identify => Sys2Proof.Machine.execIdentify s
  | .status => Sys2Proof.Machine.execStatus s
  | .apertureRead entry => Sys2Proof.Machine.execApertureRead entry s
  | .apertureWrite entry image => Sys2Proof.Machine.execApertureWrite entry image s
  | .apertureEnable entry => Sys2Proof.Machine.execApertureEnable entry s
  | .apertureDisable entry => Sys2Proof.Machine.execApertureDisable entry s
  | .queueConfigRead queue => Sys2Proof.Machine.execQueueConfigRead queue s
  | .queueConfigWrite queue image => Sys2Proof.Machine.execQueueConfigWrite queue image s
  | .queueEnable queue => Sys2Proof.Machine.execQueueEnable queue s
  | .queueDisable queue => Sys2Proof.Machine.execQueueDisable queue s
  | .queueFlush queue => Sys2Proof.Machine.execQueueFlush queue s
  | .queueStateRead queue => Sys2Proof.Machine.execQueueStateRead queue s
  | .countersClear queue => Sys2Proof.Machine.execCountersClear queue s
  | .eventsClear queue selection => Sys2Proof.Machine.execEventsClear queue selection s
  | .poolConfig base cells guardEnable => Sys2Proof.Machine.execPoolConfig base cells guardEnable s
  | .tickConfig intervalMinusOne => Sys2Proof.Machine.execTickConfig intervalMinusOne s
  | .steerOn => Sys2Proof.Machine.execSteerOn s
  | .steerOff => Sys2Proof.Machine.execSteerOff s
  | .lineConfig routing => Sys2Proof.Machine.execLineConfig routing s
  | .faultPeek => Sys2Proof.Machine.execFaultPeek s
  | .faultDrop => Sys2Proof.Machine.execFaultDrop s
  | .summaryRead init => Sys2Proof.Machine.execSummaryRead init s
  | .controlPageRead init => Sys2Proof.Machine.execControlPageRead init s
  | .frameStart => Sys2Proof.Machine.execFrameStart s
  | .frameEnd => Sys2Proof.Machine.execFrameEnd s

end Sys2Proof.Machine
end

