-- ==== Sys2Proof/Safety.lean ====
section
/-! DEFINITION. The terms the statements use: what an answer on the system port and on the management link changes, which
requests and acknowledgements a command finds, and the invariants that every step keeps. -/

namespace Sys2Proof

/-- The beats of a write; none for a read. -/
def Body.writeBeats : Body → List WriteBeat
  | .read _ => []
  | .write bs => bs

namespace Machine

/-! ### Answers -/

/-- `s` with the system port of `t`: its offers, channels, taken marks and responses. -/
def State.port (s t : State) : State :=
  { s with offers := t.offers, channels := t.channels, taken := t.taken, responses := t.responses }

/-- What the system port does when the current request of an initiator is answered (R157 to R159): the response leaves, the
request leaves its channel, and the oldest waiting offer is accepted if there is room. -/
def Answered (i : InitId) (code : RespCode) (data : List Word) (s t : State) : Prop :=
  t.responses = s.responses ++ [{ init := i, code := code, data := data }] ∧
  t.taken = s.taken.set i false ∧
  (if s.accepting = true ∧ s.channels[i].tail.length < Config.channelDepth then
    match s.offers[i] with
    | [] => t.offers = s.offers ∧ t.channels = s.channels.set i s.channels[i].tail
    | r :: rest =>
      t.offers = s.offers.set i rest ∧
      t.channels = s.channels.set i (s.channels[i].tail ++ [{ req := r, decoded := decodeRequest s i r }])
  else t.offers = s.offers ∧ t.channels = s.channels.set i s.channels[i].tail)

/-- What the system port does when the requests of a list of responses are answered one after the other, in its order; the
rest of the state does not count. -/
def AnsweredAll : List Response → State → State → Prop
  | [], s, t => t.offers = s.offers ∧ t.channels = s.channels ∧ t.taken = s.taken ∧ t.responses = s.responses
  | r :: rest, s, t => ∃ u, u = s.port u ∧ Answered r.init r.code r.data s u ∧ AnsweredAll rest u t

/-- The record of a faulting request (R152), stamped with the tick count. -/
def State.faultRecord (s : State) (kind : FaultKind) (i : InitId) (addr : Addr) (aperture : Option ApId)
    (queue : Option QueueId) : FaultRecord :=
  { kind := kind, init := some i, addr := some addr, aperture := aperture, queue := queue, stamp := s.tickCount }

/-- The record of a refused management command (R152). -/
def State.deniedRecord (s : State) (queue : Option QueueId) : FaultRecord :=
  { kind := .denied, init := none, addr := none, aperture := none, queue := queue, stamp := s.tickCount }

/-- A management command has just been received whole, and no flush is pending (R169, R171). -/
def State.linkReady (s : State) : Prop := s.frame = .receiving ∧ ∀ q, s.pendingCmd ≠ .pending q

/-- The link answers with a status byte and reply data, and nothing else changes but what the NU derives (R170). -/
def State.replied (s : State) (status : Byte) (data : List Byte) : State :=
  ({ s with frame := .responding (status :: data) }).notify

/-- The bits of bytes as the link carries them, most significant bit first (R168). -/
def bitsOf (bytes : List Byte) : List Bool := bytes.flatMap (fun b => (List.range 8).map (fun k => b.getLsbD (7 - k)))

/-- The low `n` bytes of a number, least significant first (section 13.1). -/
def leBytes (n v : Nat) : List Byte := (List.range n).map (fun k => BitVec.ofNat 8 (v / 256 ^ k))

/-! ### Requests and acknowledgements that a command finds -/

/-- The current request of an initiator, not yet taken by its block (R158). -/
def Current (s : State) (i : InitId) (r : Request) (d : Decoded) : Prop :=
  s.taken[i] = false ∧ s.channels[i].head? = some { req := r, decoded := d }

/-- The current request of an initiator, being performed by its block (R158). -/
def Performing (s : State) (i : InitId) (r : Request) (d : Decoded) : Prop :=
  s.taken[i] = true ∧ s.channels[i].head? = some { req := r, decoded := d }

/-- A window request the QE may take: no reset drain, and the cell length is still the one of the decode (R86, R126). -/
def WindowTurn (w : Window) (s : State) (i : InitId) (r : Request) (a : QueueAccess) : Prop :=
  s.drain = false ∧ Current s i r (.queue a) ∧ a.window = w ∧ (s.queue a.queue).config.cellLen = a.cellLen

/-- The next acknowledgement, one response beat per beat, is that of the live memory request `m` (R165, R166). -/
def Acknowledges (s : State) (m : MemReq) (beats : List MemBeat) : Prop :=
  s.outstanding.head? = some m ∧ m.fate = .live ∧ beats.length = m.count

/-- The next acknowledgement is that of the access `x` on a cell, for the window request `r` being performed. -/
def CellAcknowledges (s : State) (x : CellAccess) (r : Request) (a : QueueAccess) (beats : List MemBeat) : Prop :=
  (∃ m, Acknowledges s m beats ∧ m.owner = .cell x) ∧ Performing s x.init r (.queue a)

/-- The memory request of a window request on cell c: word i of the window is word i of the cell (R1, R33, R57, R68).
The access keeps the queue's empty pattern as it stands when the QE takes the request (R50, section 3.1). -/
def State.cellWord (s : State) (i : InitId) (r : Request) (a : QueueAccess) (queue : QueueId) (c : Nat) (use : CellUse) :
    MemReq :=
  { addr := s.arenaBase + BitVec.ofNat 40 (256 * c + 8 * a.first), body := r.body, fate := .live,
    owner := .cell { init := i, cell := c, queue := queue, use := use, pattern := (s.queue queue).config.emptyPattern } }

/-- The command that acts on the acknowledgement of an access to a cell. -/
def ackCommand (use : CellUse) (beats : List MemBeat) : Instr :=
  match use with
  | .compose false => .compositionWriteAck beats
  | .compose true => .closingWriteAck beats
  | .putRead => .putWindowReadAck beats
  | .take false => .takeReadAck beats
  | .take true => .closingReadAck beats
  | .peek => .peekAck beats

/-- Cell c is retired and its one remaining pin is about to fall: it then joins the Free List (R9). -/
def LastPin (s : State) (c : Nat) : Prop :=
  (s.cell c).pins - 1 = 0 ∧ (s.cell c).state = .taken ∧ ∃ q, (s.cell c).owner = some q ∧ c ∉ (s.queue q).committed

/-- A merge write is being performed, and its beat j stands at a stage (R134, R137). -/
def MergeAt (s : State) (i : InitId) (m : MergeAccess) (j : Nat) (stage : BeatStage) : Prop :=
  Performing s i m.req (.merge m.op m.mask m.target m.aperture) ∧ s.merges[i] = some { beat := j, stage := stage }

/-- The requests held on a queue, in arrival order (R18, R89). -/
def State.heldOn (s : State) (q : QueueId) : List Slot :=
  (s.arrival.filterMap (fun k => s.slots[k])).filter (fun x => decide (x.queue = q))

/-- Slot k holds a request on the queue and stands in the arrival list. -/
def HoldsOn (s : State) (q : QueueId) (k : SlotId) : Prop := k ∈ s.arrival ∧ ∃ x, s.slots[k] = some x ∧ x.queue = q

/-- Every cell of the queue has no access in flight and no pin (R110). -/
def Drained (s : State) (q : QueueId) : Prop := ∀ x ∈ s.cells, x.owner = some q → x.inFlight = 0 ∧ x.pins = 0

/-- No access of the QE issued before the reset is unacknowledged, and every count is 0 (R25, steps 5 and 8). -/
def DrainOver (s : State) : Prop :=
  (∀ m ∈ s.issueQ ++ s.outstanding, m.fate = .discarded → ∀ x, m.owner ≠ .cell x) ∧
  (∀ x ∈ s.cells, x.inFlight = 0 ∧ x.pins = 0)

/-- `t` is `s` after the QE's SYS_RESET handling has ended where it awaits nothing (R25, steps 8 and 9): the pending flush
completes and the drain is clear. -/
def DrainSettled (s t : State) : Prop :=
  (s.drain = true → DrainOver s →
    ((∀ q, (s.queue q).isFlushing = false) → t = { s with drain := false }) ∧
    (∀ q r, (s.queue q).state = .flushing r → (∀ p, p ≠ q → (s.queue p).isFlushing = false) →
      t = completeFlush q { s with drain := false })) ∧
  (s.drain = false ∨ ¬ DrainOver s → t = s)

/-- The cells that ACTIVE put bindings hold, in ascending order of their entries (R25). -/
def State.composed (s : State) : List Nat :=
  upTo16.filterMap (fun e => s.putTable[e].bind (fun b => match b.state with
    | .active c => some c
    | .phantom => none
    | .voided => none))

/-- The cells that ACTIVE take bindings hold (R25). -/
def State.bound (s : State) : List Nat :=
  upTo16.filterMap (fun e => s.takeTable[e].bind (fun b => match b.state with
    | .active c => some c
    | .voided => none))

/-- The number of ACTIVE put bindings whose target is the queue (R16). -/
def State.composing (s : State) (q : QueueId) : Nat :=
  s.countPut (fun b => decide (b.target = q) && b.isActive)

/-- The command of a held request's expiry. -/
def Slot.expiry (x : Slot) : Instr :=
  match x.kind with
  | .take => .heldTakeExpiry x.init
  | .put => .heldPutExpiry x.init

/-- The state after a command, which answers next. -/
def State.after (s : State) (c : Instr) : State :=
  match exec c s with
  | .next t => t
  | .fault _ => s
  | .refused _ => s

/-- A field of one 64-bit word: the number in the `n` bits from a place. -/
def field (w : Word) (place n : Nat) : Nat := w.toNat / 2 ^ place % 2 ^ n

/-! ### Which commands may change what -/

/-- The link commands that are refused BUSY while a flush is pending (R171, test 2): all but STATUS, IDENTIFY and
QUEUE_STATE_READ. -/
def busyCommand : Instr → Bool
  | .apertureRead _ => true
  | .apertureWrite _ _ => true
  | .apertureEnable _ => true
  | .apertureDisable _ => true
  | .queueConfigRead _ => true
  | .queueConfigWrite _ _ => true
  | .queueEnable _ => true
  | .queueDisable _ => true
  | .queueFlush _ => true
  | .countersClear _ => true
  | .eventsClear _ _ => true
  | .poolConfig _ _ _ => true
  | .tickConfig _ => true
  | .steerOn => true
  | .steerOff => true
  | .lineConfig _ => true
  | .faultPeek => true
  | .faultDrop => true
  | _ => false

/-- An aperture image with a field that its encoding does not allow (section 13.2). -/
def badAperture (im : ApertureImage) : Prop := 2 < im.kind.toNat ∨ 15 < im.queue.toNat ∨ 4 < im.operation.toNat

/-- A configuration image with a field that its encoding does not allow (section 13.3). -/
def badConfig (im : ConfigImage) : Prop :=
  5 < im.cellLen.toNat ∨ im.limit.toNat = 0 ∨ 1024 < im.limit.toNat ∨ 3 < im.policy.toNat ∨
  (15 < im.divertTarget.toNat ∧ im.divertTarget.toNat ≠ 255) ∨ 1 < im.report.toNat ∨ 1024 < im.watermark.toNat ∨
  1 < im.line.toNat ∨ 63 < im.eventMask.toNat

/-- A number of cells that POOL_CONFIG does not allow (section 13.1). -/
def badCells (n : Nat) : Prop := n ≠ 0 ∧ (n < 16 ∨ 1024 < n ∨ n % 16 ≠ 0)

/-- A link command with an argument field that its encoding does not allow (R181). -/
def badArgument : Instr → Prop
  | .apertureRead e => 15 < e.toNat
  | .apertureWrite e im => 15 < e.toNat ∨ badAperture im
  | .apertureEnable e => 15 < e.toNat
  | .apertureDisable e => 15 < e.toNat
  | .queueConfigRead q => 15 < q.toNat
  | .queueConfigWrite q im => 15 < q.toNat ∨ badConfig im
  | .queueEnable q => 15 < q.toNat
  | .queueDisable q => 15 < q.toNat
  | .queueFlush q => 15 < q.toNat
  | .queueStateRead q => 15 < q.toNat
  | .countersClear q => 15 < q.toNat
  | .eventsClear q sel => 15 < q.toNat ∨ 31 < sel.toNat
  | .poolConfig base n g => base.toNat % 262144 ≠ 0 ∨ badCells n.toNat ∨ 1 < g.toNat
  | .lineConfig r => 2 < r.toNat
  | _ => False

/-- The commands that write the Aperture Table (R117 to R120). -/
def tableCommand : Instr → Bool
  | .apertureWrite _ _ => true
  | .apertureEnable _ => true
  | .apertureDisable _ => true
  | _ => false

/-- A command of an initiator on its own current window or control-page request. -/
def windowCommand (i : InitId) : List Instr :=
  [.putWindowWrite i, .putWindowRead i, .takeWindowRead i, .peekRead i, .abandon i, .returnWord i, .eventsWrite i,
   .controlWordWrite i, .controlPageRead i]

/-- What APERTURE_ENABLE asks of an entry (R119). -/
def EntryValid (s : State) (a : Aperture) : Prop :=
  6 ≤ a.sizeExp.toNat ∧ a.sizeExp.toNat ≤ 32 ∧ a.base.toNat % 2 ^ a.sizeExp.toNat = 0 ∧
  (a.kind = .queue → 2 ^ a.sizeExp.toNat = 4 * max 64 (8 * 2 ^ (s.queue a.queue).config.cellLen.val)) ∧
  (a.kind = .merge → a.targetBase.toNat % 2 ^ a.sizeExp.toNat = 0)

/-- No binding of either table, in any state, names the queue (R105). -/
def Unbound (s : State) (q : QueueId) : Prop :=
  (∀ (e : EntryId) b, s.putTable[e] = some b → b.origin ≠ q ∧ b.target ≠ q) ∧
  (∀ (e : EntryId) b, s.takeTable[e] = some b → b.queue ≠ q)

/-- The part is quiet (R116). -/
def PartQuiet (s : State) : Prop :=
  (∀ e : EntryId, s.putTable[e] = none) ∧ (∀ e : EntryId, s.takeTable[e] = none) ∧ (∀ k : SlotId, s.slots[k] = none) ∧
  s.locks = [] ∧ (∀ q, (s.queue q).isFlushing = false) ∧
  (∀ i : InitId, ∀ x ∈ s.channels[i], x.decoded.steered = false) ∧ s.drain = false

/-! ### Images of well-encoded arguments -/

/-- The image that carries the fields of an entry (section 13.2). -/
def Aperture.image (a : Aperture) : ApertureImage :=
  { base := a.base, sizeExp := a.sizeExp, kind := a.kind.byte, permitted := a.permitted,
    queue := BitVec.ofNat 8 a.queue.val, reported := a.reported, operation := a.op.byte, mask := a.mask,
    targetBase := a.targetBase }

/-- The image that carries a configuration (section 13.3). -/
def QueueConfig.image (c : QueueConfig) : ConfigImage :=
  { cellLen := BitVec.ofNat 8 c.cellLen.val, limit := BitVec.ofNat 16 c.limit, policy := c.policy.byte,
    divertTarget := divertByte c.divertTarget, report := byteOfBool c.report, emptyPattern := c.emptyPattern,
    takeWait := c.takeWait, putWait := c.putWait, watermark := BitVec.ofNat 16 c.watermark, line := c.line.byte,
    eventMask := BitVec.ofNat 8 c.eventMask.toNat }

/-- A configuration within the ranges of R12. -/
def QueueConfig.inRange (c : QueueConfig) : Prop := 1 ≤ c.limit ∧ c.limit ≤ 1024 ∧ c.watermark ≤ 1024

/-! ### Invariants -/

/-- READY and both lines show what their inputs have (R145, R150). -/
def Notified (s : State) : Prop :=
  (∀ q, s.flags[q].ready = decide (0 < s.available q)) ∧ s.attnA = s.lineLevel .a ∧ s.attnB = s.lineLevel .b

/-- The capacities of the part and the ranges of its configuration are kept (R1, R12, R87, R137, R153, R157, R163). -/
def Bounded (s : State) : Prop :=
  (∀ q, 1 ≤ (s.queue q).config.limit ∧ (s.queue q).config.limit ≤ 1024 ∧ (s.queue q).config.watermark ≤ 1024) ∧
  (s.poolSize = 0 ∨ (16 ≤ s.poolSize ∧ s.poolSize ≤ 1024 ∧ s.poolSize % 16 = 0)) ∧ s.arenaBase.toNat % 262144 = 0 ∧
  (∀ i : InitId, s.channels[i].length ≤ 4) ∧ s.outstanding.length ≤ 16 ∧ s.log.length ≤ 8 ∧ s.locks.length ≤ 4 ∧
  1 ≤ s.tickInterval ∧ s.tickInterval ≤ 65536 ∧ s.tickElapsed < s.tickInterval

/-- No two held lock entries share a word (R137), and no two presented requests conflict (R164). -/
def Apart (s : State) : Prop :=
  s.locks.Pairwise (fun l m => shareWord m.word 1 l.word 1 = false) ∧
  s.outstanding.Pairwise (fun e r => r.conflicts e = false)

/-- While steering is OFF no binding and no held request exists, and no request in a channel is steered (R114). -/
def OffIsIdle (s : State) : Prop :=
  s.steering = .off →
    (∀ e : EntryId, s.putTable[e] = none) ∧ (∀ e : EntryId, s.takeTable[e] = none) ∧
    (∀ k : SlotId, s.slots[k] = none) ∧ (∀ i : InitId, ∀ x ∈ s.channels[i], x.decoded.steered = false)

/-- A queue is FLUSHING exactly while the link holds the flush of that queue as its pending command (R172). -/
def FlushIsPending (s : State) : Prop := ∀ q, (s.queue q).isFlushing = true ↔ s.pendingCmd = .pending q

/-- Every access waiting on the MU still fails its test against the lock set and the waiters before it (R138, R139). -/
def Settled (s : State) : Prop :=
  ∀ before w after, s.waiting = before ++ w :: after →
    match w with
    | .access r => blocked s.locks before r.addr r.count = true
    | .beat _ word => mayLock s.locks before word = false

/-- No held request has been left at its deadline: the advance that reaches the deadline makes it expire (R87). -/
def NoneOverdue (s : State) : Prop := ∀ k ∈ s.arrival, ∀ x, s.slots[k] = some x → x.deadline ≠ s.tickCount

/-- No queue holds more cells than its Limit (R14, R16, R24). -/
def WithinLimits (s : State) : Prop := ∀ q, s.holding q ≤ (s.queue q).config.limit

/-- Every held request waits for what its queue lacks: the queue is ENABLED, and full under a held put, without an available
cell under a held take (R91). -/
def HeldWait (s : State) : Prop :=
  ∀ (k : SlotId) x, s.slots[k] = some x → (s.queue x.queue).state = .rest .enabled ∧
    (x.kind = .put → s.full x.queue = true) ∧ (x.kind = .take → s.available x.queue = 0)

/-- A frame is in progress only while select is asserted (R168). -/
def FramesSelected (s : State) : Prop := s.frame ≠ .outside → s.select = true

/-! ### The accounting of cells, bindings and requests

One invariant, in parts that need each other: where each cell is depends on the bindings, those on the accesses under way, and
those on each initiator performing one request at a time. -/

/-- Entry e of the Put Binding Table is ACTIVE on cell c. -/
def PutActive (s : State) (e : EntryId) (c : Nat) : Prop := ∃ b, s.putTable[e] = some b ∧ b.state = .active c

/-- Entry e of the Take Binding Table is ACTIVE on cell c. -/
def TakeActive (s : State) (e : EntryId) (c : Nat) : Prop := ∃ b, s.takeTable[e] = some b ∧ b.state = .active c

/-- The memory request of a waiting access; a merge beat has none yet. -/
def Waiter.request : Waiter → Option MemReq
  | .access r => some r
  | .beat _ _ => none

/-- Every memory request not yet acknowledged: waiting on the MU, issued, or outstanding (R138, R163). -/
def State.requests (s : State) : List MemReq := s.waiting.filterMap Waiter.request ++ s.issueQ ++ s.outstanding

/-- A request that counts for cell c: a peek of it, or another access to it, that PWR_RESET has not cut off (R8, R9, R25). -/
def MemReq.counts (peek : Bool) (c : Nat) (m : MemReq) : Bool :=
  match m.owner with
  | .cell x => decide (x.cell = c) && (decide (x.use = .peek) == peek) && decide (m.fate ≠ .dropped)
  | .passThrough _ => false
  | .mergeRead _ => false
  | .beatRead _ => false
  | .beatWrite _ => false

/-- Each cell is in exactly one place: the Free List, one ACTIVE put binding, one committed list, or held out of every list by
a pin; and the lists and the open counts agree with the Cell Table (R3, R10, R14, R16, R23, R24). -/
structure CellsPlaced (s : State) : Prop where
  pool : s.cells.length = s.poolSize
  free_nodup : s.freeList.Nodup
  free_iff : ∀ c, c ∈ s.freeList ↔ c < s.cells.length ∧ (s.cell c).state = .free
  free_clear : ∀ c, (s.cell c).state = .free → s.cell c = { Cell.freed with inFlight := (s.cell c).inFlight }
  open_iff : ∀ c, (s.cell c).state = .opened ↔ ∃ e, PutActive s e c
  open_once : ∀ e f c, PutActive s e c → PutActive s f c → e = f
  open_owner : ∀ (e : EntryId) b c, s.putTable[e] = some b → b.state = .active c → (s.cell c).owner = some b.target
  open_count : ∀ q, (s.queue q).openCount = s.composing q
  listed_nodup : ∀ q, (s.queue q).committed.Nodup
  listed : ∀ q, ∀ c ∈ (s.queue q).committed,
    (s.cell c).owner = some q ∧ ((s.cell c).state = .queued ∨ (s.cell c).state = .taken)
  queued : ∀ c, (s.cell c).state = .queued → ∃ q, c ∈ (s.queue q).committed
  taken : ∀ c, (s.cell c).state = .taken →
    (∃ e, TakeActive s e c) ∨ (0 < (s.cell c).pins ∧ (s.cell c).inFlight = 0 ∧ (∃ q, (s.cell c).owner = some q) ∧
      ∀ q, c ∉ (s.queue q).committed)
  taken_once : ∀ e f c, TakeActive s e c → TakeActive s f c → e = f
  taken_cell : ∀ (e : EntryId) b c, s.takeTable[e] = some b → b.state = .active c →
    (s.cell c).state = .taken ∧ c ∈ (s.queue b.queue).committed

/-- The keys of each binding table are unique (R26, R49), an occupied slot stands in the arrival list once and nothing else
does (R89), and a held request's initiator has no binding for its queue, since it was to make one (R30, R53). -/
structure KeysUnique (s : State) : Prop where
  put : ∀ (e f : EntryId) b d, s.putTable[e] = some b → s.putTable[f] = some d →
    b.init = d.init → b.origin = d.origin → e = f
  take : ∀ (e f : EntryId) b d, s.takeTable[e] = some b → s.takeTable[f] = some d →
    b.init = d.init → b.queue = d.queue → e = f
  arrival_nodup : s.arrival.Nodup
  arrival_iff : ∀ k : SlotId, k ∈ s.arrival ↔ ∃ x, s.slots[k] = some x
  held_put : ∀ (k : SlotId) x (e : EntryId) b, s.slots[k] = some x → x.kind = .put → s.putTable[e] = some b →
    ¬ (b.init = x.init ∧ b.origin = x.queue)
  held_take : ∀ (k : SlotId) x (e : EntryId) b, s.slots[k] = some x → x.kind = .take → s.takeTable[e] = some b →
    ¬ (b.init = x.init ∧ b.queue = x.queue)

/-- The counts of a cell are the numbers of the accesses and the peeks under way on it (R8, R9); a peeked cell is committed to
the queue peeked at; while the reset drain is set an acknowledgement is awaited and no binding, held request or live cell access
exists, and while it is clear no discarded cell access does (R25); and none of either while steering is OFF (R114, R116). -/
structure AccessesCounted (s : State) : Prop where
  inFlight : ∀ c, (s.cell c).inFlight = s.requests.countP (MemReq.counts false c)
  pins : ∀ c, (s.cell c).pins = s.requests.countP (MemReq.counts true c)
  peeked : ∀ m ∈ s.requests, ∀ x, m.owner = .cell x → x.use = .peek → m.fate ≠ .dropped →
    (s.cell x.cell).owner = some x.queue ∧ ((s.cell x.cell).state = .queued ∨ (s.cell x.cell).state = .taken)
  drained : s.drain = true → (∀ e : EntryId, s.putTable[e] = none ∧ s.takeTable[e] = none) ∧
    (∀ k : SlotId, s.slots[k] = none) ∧ ∀ m ∈ s.requests, ∀ x, m.owner = .cell x → m.fate ≠ .live
  awaits : s.drain = true → ¬ DrainOver s
  clear : s.drain = false → ∀ m ∈ s.requests, ∀ x, m.owner = .cell x → m.fate ≠ .discarded
  waiting : ∀ r, Waiter.access r ∈ s.waiting → r.fate = .live
  off : s.steering = .off → ∀ m ∈ s.requests, ∀ x, m.owner = .cell x → m.fate = .dropped

/-- The parts of what an initiator's current request may be doing: held in a slot, in a memory request, or a merge beat that
has issued none. -/
def State.activities (s : State) (i : InitId) : Nat :=
  s.countHeld (fun x => decide (x.init = i)) +
    s.requests.countP (fun m => decide (m.fate = .live) && decide (m.owner.init = i)) +
    (s.merges[i]).toList.countP (fun m => decide (m.stage ≠ .reading) && decide (m.stage ≠ .writing))

/-- The current request that a live memory request is part of (R33, R45, R57, R68, R133, R137, R161). -/
def Serves (s : State) (m : MemReq) (e : Accepted) : Prop :=
  m.count = (match m.owner with
    | .beatRead _ => 1
    | .beatWrite _ => 1
    | _ => e.req.body.count) ∧
  match m.owner, e.decoded with
  | .passThrough _, .passThrough => True
  | .mergeRead _, .merge _ _ _ _ => e.req.body.isWrite = false
  | .beatRead i, .merge _ _ _ _ => ∃ j, s.merges[i] = some { beat := j, stage := .reading }
  | .beatWrite i, .merge _ _ _ _ => ∃ j, s.merges[i] = some { beat := j, stage := .writing }
  | .cell x, .queue a =>
    match x.use with
    | .compose _ => a.window = .put ∧ e.req.body.isWrite = true ∧
        ∃ f : EntryId, s.putTable[f] = some { init := x.init, origin := a.queue, target := x.queue, state := .active x.cell }
    | .putRead => a.window = .put ∧ e.req.body.isWrite = false ∧
        ∃ f : EntryId, s.putTable[f] = some { init := x.init, origin := a.queue, target := x.queue, state := .active x.cell }
    | .take _ => a.window = .take ∧ e.req.body.isWrite = false ∧ a.queue = x.queue ∧
        ∃ f : EntryId, s.takeTable[f] = some { init := x.init, queue := x.queue, state := .active x.cell }
    | .peek => a.window = .peek ∧ e.req.body.isWrite = false ∧ a.queue = x.queue
  | _, _ => False

/-- Each initiator performs one request at a time (R158): a taken current request is in exactly one place and of the kind that
the place is for, and an initiator whose current request no block has taken is in none. A merge write in progress holds its
lock entry, or stands in the waiting list once, exactly at the stages of R137. -/
structure OneRequestEach (s : State) : Prop where
  one : ∀ i : InitId, s.activities i = if s.taken[i] then 1 else 0
  held : ∀ (k : SlotId) x, s.slots[k] = some x →
    s.channels[x.init].head? = some { req := x.req, decoded := .queue x.access } ∧ x.access.queue = x.queue ∧
      (x.kind = .put → x.access.window = .put ∧ x.req.body.isWrite = true) ∧
      (x.kind = .take → x.access.window = .take ∧ x.req.body.isWrite = false)
  serves : ∀ m ∈ s.requests, m.fate = .live → ∃ e, s.channels[m.owner.init].head? = some e ∧ Serves s m e
  merging : ∀ (i : InitId) b, s.merges[i] = some b → ∃ r op mask target k,
    s.channels[i].head? = some { req := r, decoded := .merge op mask target k } ∧ r.body.isWrite = true ∧
      b.beat < r.body.count ∧
      (b.stage = .waiting → Waiter.beat i (beatAddr target b.beat) ∈ s.waiting) ∧
      (b.stage = .locked → { word := beatAddr target b.beat, init := i, stage := .reading } ∈ s.locks) ∧
      (b.stage = .reading → { word := beatAddr target b.beat, init := i, stage := .reading } ∈ s.locks) ∧
      (b.stage = .writing → { word := beatAddr target b.beat, init := i, stage := .writing } ∈ s.locks)
  beat_in_flight : ∀ (i : InitId) b, s.merges[i] = some b → (b.stage = .reading ∨ b.stage = .writing) →
    ∃ m ∈ s.requests, m.fate = .live ∧ (m.owner = .beatRead i ∨ m.owner = .beatWrite i)
  waits : ∀ (i : InitId) w, Waiter.beat i w ∈ s.waiting → ∃ j, s.merges[i] = some { beat := j, stage := .waiting }
  waits_once : ∀ i : InitId, s.waiting.countP (fun w => match w with
    | .access _ => false
    | .beat j _ => decide (j = i)) ≤ 1
  locked : ∀ l ∈ s.locks, ∃ b, s.merges[l.init] = some b ∧ b.stage ≠ .arriving ∧ b.stage ≠ .waiting
  locked_once : (s.locks.map Lock.init).Nodup

/-- The accounting of the part (R23, R24): the four parts above, with steering OFF as R114 says. -/
structure Accounted (s : State) : Prop where
  cells : CellsPlaced s
  keys : KeysUnique s
  accesses : AccessesCounted s
  requests : OneRequestEach s
  off : OffIsIdle s

end Machine

end Sys2Proof
end

