-- ==== Sys2Proof/Certificates/Slice0/Obligations.lean ====
section
/-! DEFINITION. The statements for the provers. A statement of a command's result has as its conclusion that `exec` answers
a next state, and gives that state as a record update of the old one: every field the update does not name is unchanged.
`State.port s t` is `s` with the system port of `t`; `Answered` says what that port does when a request is answered. The log
of responses sent is the model's own (log 10), and so is the acceptance of one waiting offer with each response (log 11). -/

open Sys2Proof Sys2Proof.Machine

/-! ### The machine -/

/-- A step carries out the command at the front of the queue, on the state with the queue's rest. That the events at the part come
as one queue of commands, taken in its order, is the model's choice (log 3). -/
def Obligations.StepRunsFront : Prop :=
  ∀ (c : Instr) (rest : List Instr) (s : State),
    step { s with pending := c :: rest } = exec c { s with pending := rest }

/-- Every command answers a next state and leaves the queue of commands as it is. That a command whose event cannot take place
answers too, with nothing changed, is the model's choice (log 1), and so is the queue (log 3). -/
def Obligations.EveryCommandAnswers : Prop :=
  ∀ (c : Instr) (s : State), ∃ t, exec c s = .next t ∧ t.pending = s.pending

/-- TICK_ADVANCE raises the tick count by 1 and starts the next tick, and every held request whose deadline the count then
equals expires in its step (R87): none is left at its deadline, those that are not due keep their slots, and with none due
nothing else changes. With one due, the step is that of HELD_TAKE_EXPIRY or HELD_PUT_EXPIRY on the advanced count, whatever the
queue of commands holds. With several due, of initiators that each have one, the expiries are those of the expiry commands
waiting next and then of the slots in arrival order, one after the other (R97, R98). On an empty queue of commands the part
clocks that are left of the tick in progress make one TICK_ADVANCE. The clocks are the model's choice (logs 3 and 9), and so is
the order of several expiries (log 7). -/
def Obligations.TicksAdvance : Prop :=
  (∀ s : State, s.pwrReset = false → (∀ k ∈ s.arrival, ∀ x, s.slots[k] = some x → x.deadline ≠ s.tickCount + 1#32) →
    exec .tickAdvance s = .next ({ s with tickCount := s.tickCount + 1#32, tickElapsed := 0 } : State).notify) ∧
  (∀ s : State, s.pwrReset = false → ∃ t, exec .tickAdvance s = .next t ∧ t.tickCount = s.tickCount + 1#32 ∧
    t.tickElapsed = 0 ∧ NoneOverdue t ∧
    (∀ (k : SlotId) x, s.slots[k] = some x → x.deadline ≠ s.tickCount + 1#32 → t.slots[k] = some x)) ∧
  (∀ (s : State) (k : SlotId) (x : Slot), s.pwrReset = false →
    ({ s with tickCount := s.tickCount + 1#32 } : State).dueHeld x.kind x.init = some (k, x) →
    (∀ j ∈ s.arrival, j ≠ k → ∀ y, s.slots[j] = some y → y.deadline ≠ s.tickCount + 1#32) →
    exec .tickAdvance s = exec x.expiry { s with tickCount := s.tickCount + 1#32, tickElapsed := 0 }) ∧
  (∀ (s : State) (named rest : List Instr), s.pwrReset = false → s.pending = named ++ rest →
    (∀ c ∈ named, ∃ i, c = .heldTakeExpiry i ∨ c = .heldPutExpiry i) →
    (∀ c, rest.head? = some c → ∀ i, c ≠ .heldTakeExpiry i ∧ c ≠ .heldPutExpiry i) →
    (∀ j ∈ s.arrival, ∀ k ∈ s.arrival, ∀ x y, s.slots[j] = some x → s.slots[k] = some y → x.init = y.init → j = k) →
    exec .tickAdvance s = .next
      ((named ++ s.arrival.filterMap (fun k => s.slots[k].map Slot.expiry)).foldl State.after
        { s with tickCount := s.tickCount + 1#32, tickElapsed := 0 }).notify) ∧
  (∀ s : State, s.pending = [] → s.pwrReset = false → s.tickElapsed < s.tickInterval →
    Sys2Proof.core.run (s.tickInterval - s.tickElapsed) s = exec .tickAdvance s)

/-- The reset values of the rules hold right after PWR_RESET, and so does every invariant of the statements below. -/
def Obligations.ResetState : Prop :=
  let s := State.reset
  (s.steering = .off ∧ s.arenaBase = 0#40 ∧ s.poolSize = 0 ∧ s.guardOn = false ∧ s.cells = [] ∧ s.freeList = []) ∧
  (∀ q, s.queue q = QueueCtx.initial ∧ s.flags[q] = EventSet.none) ∧
  ((s.queue 0).config.limit = 1 ∧ (s.queue 0).config.policy = .dropNew ∧ (s.queue 0).state = .rest .disabled) ∧
  (∀ e : EntryId, s.putTable[e] = none ∧ s.takeTable[e] = none ∧ s.apertures[e] = Aperture.zero) ∧
  (∀ k : SlotId, s.slots[k] = none ∧ s.channels[k] = [] ∧ s.latches[k] = Latch.zero) ∧
  (s.arrival = [] ∧ s.tickCount = 0#32 ∧ s.tickInterval = 1 ∧ s.locks = [] ∧ s.waiting = [] ∧ s.issueQ = [] ∧
    s.outstanding = []) ∧
  (s.attnA = false ∧ s.attnB = false ∧ s.faultRouting = none ∧ s.log = [] ∧ s.overflow = 0#8) ∧
  (s.frame = .outside ∧ s.pendingCmd = .idle ∧ s.drain = false) ∧
  (Notified s ∧ Bounded s ∧ Apart s ∧ Settled s ∧ OffIsIdle s ∧ FlushIsPending s ∧ NoneOverdue s ∧ FramesSelected s ∧
    Accounted s ∧ WithinLimits s ∧ HeldWait s)

/-- Every step keeps READY and the attention lines at the value of their inputs (R145, R150). READY is set while the queue has
an available cell. A line is asserted while some queue that drives it has a flag, READY among them, whose mask bit is set, or
while the fault log is not empty and routed to it (R150). What the NU derives at the end of a step changes nothing else. -/
def Obligations.NotifiedKept : Prop :=
  (∀ s t : State, Notified s → step s = .next t → Notified t) ∧
  (∀ (s : State) (l : Line), s.lineLevel l = true ↔
    (∃ q, (s.queue q).config.line = l ∧
      ((s.flags[q].lost = true ∧ (s.queue q).config.eventMask.lost = true) ∨
       (s.flags[q].underrun = true ∧ (s.queue q).config.eventMask.underrun = true) ∨
       (s.flags[q].watermark = true ∧ (s.queue q).config.eventMask.watermark = true) ∨
       (s.flags[q].expired = true ∧ (s.queue q).config.eventMask.expired = true) ∨
       (s.flags[q].diverted = true ∧ (s.queue q).config.eventMask.diverted = true) ∨
       (s.flags[q].ready = true ∧ (s.queue q).config.eventMask.ready = true))) ∨
    (s.log ≠ [] ∧ s.faultRouting = some l)) ∧
  (∀ s : State, Notified s.notify ∧
    (∀ q : QueueId, s.notify.flags[q] = { s.flags[q] with ready := s.notify.flags[q].ready }) ∧
    s.notify = { s with flags := s.notify.flags, attnA := s.notify.attnA, attnB := s.notify.attnB })

/-- Every step keeps the capacities of the channels, the outstanding list, the fault log, the lock set and the tick, and the
ranges of the configuration and the pool; it keeps the held locks on distinct words and the presented requests free of
conflicts; and it leaves no waiting access that could pass. -/
def Obligations.CapacitiesAndOrderKept : Prop :=
  ∀ s t : State, step s = .next t → (Bounded s → Bounded t) ∧ (Apart s → Apart t) ∧ (Settled s → Settled t)

/-- Every step keeps the part idle while steering is OFF (R114): no binding, no held request, no steered request, and, with the
accounting that AccountingKept says every step keeps, no word lock. Every step keeps FLUSHING and the pending-command state
together (R172), leaves no held request at its deadline (R87), and keeps frames to a select that is asserted (R168). -/
def Obligations.IdleAndPendingKept : Prop :=
  (∀ s t : State, step s = .next t →
    (OffIsIdle s → OffIsIdle t) ∧ (FlushIsPending s → FlushIsPending t) ∧ (NoneOverdue s → NoneOverdue t) ∧
    (FramesSelected s → FramesSelected t)) ∧
  (∀ s : State, Accounted s → s.steering = .off → s.locks = [])

/-- Every step keeps the accounting of cells, bindings and requests: each cell in exactly one place (R23), each TAKEN cell of a
committed list under one ACTIVE take binding (R24), the Free List and the committed lists without duplicates (R10, R14), unique
keys in both binding tables (R26, R49), the arrival list the occupied slots without duplicates (R89), the counts of each cell
those of the accesses under way (R8, R9), and one request for each initiator (R158). Under it every step keeps each queue's
holding, which is at least its open count plus the length of its committed list, within its Limit (R14, R16, R24); and free
plus open plus committed is N, where a queue's holding is its part of open and committed (R19, R23). -/
def Obligations.AccountingKept : Prop :=
  (∀ s t : State, Accounted s → step s = .next t → Accounted t) ∧
  (∀ s t : State, Accounted s → WithinLimits s → step s = .next t → WithinLimits t) ∧
  (∀ (s : State) (q : QueueId), WithinLimits s →
    (s.queue q).openCount + (s.queue q).committed.length ≤ (s.queue q).config.limit) ∧
  (∀ s : State, Accounted s → s.freeList.length + (upTo16.map s.holding).sum = s.poolSize)

/-- Apart from PWR_RESET, each piece of configuration changes only by the commands that set it. -/
def Obligations.ConfigurationKept : Prop :=
  ∀ (c : Instr) (s t : State), exec c s = .next t → c ≠ .pwrResetAssert →
    ((∀ b im, c ≠ .queueConfigWrite b im) → ∀ q, (t.queue q).config = (s.queue q).config) ∧
    (tableCommand c = false → t.apertures = s.apertures) ∧
    ((∀ b n g, c ≠ .poolConfig b n g) →
      t.arenaBase = s.arenaBase ∧ t.poolSize = s.poolSize ∧ t.guardOn = s.guardOn ∧ t.cells.length = s.cells.length) ∧
    (c ≠ .steerOn → c ≠ .steerOff → t.steering = s.steering) ∧
    ((∀ n, c ≠ .tickConfig n) → t.tickInterval = s.tickInterval) ∧
    ((∀ r, c ≠ .lineConfig r) → t.faultRouting = s.faultRouting) ∧
    (c ≠ .tickAdvance → t.tickCount = s.tickCount)

/-- A window or control-page command of one initiator leaves the bindings of every other initiator as they are. -/
def Obligations.BindingsOfOthersKept : Prop :=
  ∀ (i : InitId) (c : Instr) (s t : State), c ∈ windowCommand i → exec c s = .next t →
    (∀ (e : EntryId) b, s.putTable[e] = some b → b.init ≠ i → t.putTable[e] = some b) ∧
    (∀ (e : EntryId) b, s.takeTable[e] = some b → b.init ≠ i → t.takeTable[e] = some b)

/-- Apart from the resets, a reservation latch changes only by a merge request of its own initiator (R132). -/
def Obligations.LatchesAreOwn : Prop :=
  ∀ (c : Instr) (s t : State) (j : InitId), exec c s = .next t → t.latches[j] ≠ s.latches[j] →
    c = .sysResetAssert ∨ c = .pwrResetAssert ∨ c = .mergeWrite j ∨
    ∃ m rest beats, s.outstanding = m :: rest ∧
      ((c = .mergeReadAck beats ∧ m.owner = .mergeRead j) ∨ (c = .mergeBeatReadAck beats ∧ m.owner = .beatRead j) ∨
       (c = .mergeBeatWriteAck beats ∧ m.owner = .beatWrite j))

/-- COUNTERS_CLEAR sets the four counters of its queue to 0, in every resting state of the queue, and is BUSY while a flush is
pending; it changes no flag, no other queue and no sequence counter; a raise before it leaves 0 and one after it leaves 1 and
sets its flag; apart from it and PWR_RESET, which sets them to 0, no command lowers a counter (R107). -/
def Obligations.CountersOnlyCleared : Prop :=
  (∀ (s : State) (b : Byte) (q : QueueId), s.linkReady → b.toNat = q.val →
    exec (.countersClear b) s = .next
      ((State.replied · 0x00#8 [])
        { s with
            queues := s.queues.set q
              { s.queue q with lost := 0#16, underrun := 0#16, expired := 0#16, divertedOut := 0#16 } })) ∧
  (∀ (s : State) (b : Byte) (q : QueueId), s.frame = .receiving → s.pendingCmd = .pending q →
    exec (.countersClear b) s = .next (s.replied 0x02#8 [])) ∧
  (∀ (s u t : State) (b : Byte) (q : QueueId) (raise : State → QueueId → State), s.linkReady → b.toNat = q.val →
    raise ∈ [State.raiseLost, State.raiseUnderrun, State.raiseExpired, State.raiseDiverted] →
    exec (.countersClear b) (raise s q) = .next u → exec (.countersClear b) s = .next t →
    ((u.queue q).lost = 0#16 ∧ (u.queue q).underrun = 0#16 ∧ (u.queue q).expired = 0#16 ∧
      (u.queue q).divertedOut = 0#16) ∧
    ((t.raiseLost q).queue q).lost = 1#16 ∧ ((t.raiseUnderrun q).queue q).underrun = 1#16 ∧
    ((t.raiseExpired q).queue q).expired = 1#16 ∧ ((t.raiseDiverted q).queue q).divertedOut = 1#16 ∧
    ((t.raiseLost q).flags[q].lost = true ∧ (t.raiseUnderrun q).flags[q].underrun = true ∧
      (t.raiseExpired q).flags[q].expired = true ∧ (t.raiseDiverted q).flags[q].diverted = true)) ∧
  (∀ (s t : State) (q : QueueId), exec .pwrResetAssert s = .next t →
    (t.queue q).lost = 0#16 ∧ (t.queue q).underrun = 0#16 ∧ (t.queue q).expired = 0#16 ∧
    (t.queue q).divertedOut = 0#16) ∧
  (∀ (c : Instr) (s t : State) (q : QueueId), exec c s = .next t → c ≠ .pwrResetAssert →
    (∀ b, c = .countersClear b → b.toNat ≠ q.val) →
    (s.queue q).lost.toNat ≤ (t.queue q).lost.toNat ∧ (s.queue q).underrun.toNat ≤ (t.queue q).underrun.toNat ∧
    (s.queue q).expired.toNat ≤ (t.queue q).expired.toNat ∧
    (s.queue q).divertedOut.toNat ≤ (t.queue q).divertedOut.toNat)

/-- EVENTS_CLEAR clears the selected sticky flags of its queue, in every queue state and steering state, and is BUSY while a
flush is pending; a flag that an event sets after it stands set, and one set before it is cleared (R149). Apart from it,
control-page writes and PWR_RESET no command clears one. That ABANDON and RETURN are among those writes, since the row of any
word commands a burst that covers EVENTS too, is the model's choice (log 12). -/
def Obligations.StickyFlagsOnlyCleared : Prop :=
  (∀ (s : State) (b sel : Byte) (q : QueueId), s.linkReady → b.toNat = q.val → sel.toNat < 32 →
    exec (.eventsClear b sel) s = .next
      ((State.replied · 0x00#8 [])
        { s with
            flags := s.flags.set q
              { lost := s.flags[q].lost && !sel.getLsbD 0,
                underrun := s.flags[q].underrun && !sel.getLsbD 1,
                watermark := s.flags[q].watermark && !sel.getLsbD 2,
                expired := s.flags[q].expired && !sel.getLsbD 3,
                diverted := s.flags[q].diverted && !sel.getLsbD 4,
                ready := s.flags[q].ready } })) ∧
  (∀ (s : State) (b sel : Byte) (q : QueueId), s.frame = .receiving → s.pendingCmd = .pending q →
    exec (.eventsClear b sel) s = .next (s.replied 0x02#8 [])) ∧
  (∀ (s t u : State) (b sel : Byte) (q : QueueId), s.linkReady → b.toNat = q.val → sel.toNat < 32 →
    exec (.eventsClear b sel) s = .next t →
    ((t.raiseLost q).flags[q].lost = true ∧ (t.raiseUnderrun q).flags[q].underrun = true ∧
      (t.raiseExpired q).flags[q].expired = true ∧ (t.raiseDiverted q).flags[q].diverted = true) ∧
    (sel.getLsbD 0 = true → exec (.eventsClear b sel) (s.raiseLost q) = .next u → u.flags[q].lost = false) ∧
    (sel.getLsbD 1 = true → exec (.eventsClear b sel) (s.raiseUnderrun q) = .next u → u.flags[q].underrun = false) ∧
    (sel.getLsbD 3 = true → exec (.eventsClear b sel) (s.raiseExpired q) = .next u → u.flags[q].expired = false) ∧
    (sel.getLsbD 4 = true → exec (.eventsClear b sel) (s.raiseDiverted q) = .next u → u.flags[q].diverted = false)) ∧
  (∀ (c : Instr) (s t : State) (q : QueueId), exec c s = .next t → c ≠ .pwrResetAssert →
    (∀ b sel, c = .eventsClear b sel → b.toNat ≠ q.val) →
    (∀ i, c ≠ .eventsWrite i ∧ c ≠ .abandon i ∧ c ≠ .returnWord i) →
    (s.flags[q].lost = true → t.flags[q].lost = true) ∧
    (s.flags[q].underrun = true → t.flags[q].underrun = true) ∧
    (s.flags[q].watermark = true → t.flags[q].watermark = true) ∧
    (s.flags[q].expired = true → t.flags[q].expired = true) ∧
    (s.flags[q].diverted = true → t.flags[q].diverted = true))

/-- FAULT_DROP removes the oldest record, and sets the overflow count to 0 when it empties the log; on an empty log it changes
nothing; a summary word then shows no fault; while a flush is pending it is BUSY and removes nothing (R155). Apart from it and
PWR_RESET records are only appended and the overflow count only rises; every command only appends responses, which are the
model's own field (log 10). A record is appended while the log holds fewer than eight, and counted by the overflow count
otherwise, which stops at 255 (R153); a counter stops at its highest value (R17). -/
def Obligations.LogAndResponsesGrow : Prop :=
  (∀ (s : State) (r : FaultRecord),
    (s.log.length < 8 → s.appendRecord r = { s with log := s.log ++ [r] }) ∧
    (8 ≤ s.log.length → s.appendRecord r = { s with overflow := satInc s.overflow })) ∧
  (∀ (w : Nat) (x : BitVec w), (satInc x).toNat = min (x.toNat + 1) (2 ^ w - 1)) ∧
  (∀ s : State, s.linkReady → s.log = [] → exec .faultDrop s = .next (s.replied 0x00#8 [])) ∧
  (∀ (s : State) (r : FaultRecord), s.linkReady → s.log = [r] →
    exec .faultDrop s = .next (({ s with log := [], overflow := 0#8 } : State).replied 0x00#8 [])) ∧
  (∀ (s : State) (r r' : FaultRecord) (rest : List FaultRecord), s.linkReady → s.log = r :: r' :: rest →
    exec .faultDrop s = .next (({ s with log := r' :: rest } : State).replied 0x00#8 [])) ∧
  (∀ (s : State) (q : QueueId), s.frame = .receiving → s.pendingCmd = .pending q →
    exec .faultDrop s = .next (s.replied 0x02#8 [])) ∧
  (∀ (s : State) (reported : BitVec 16), s.log = [] → (s.summaryWord reported).getLsbD 32 = false) ∧
  (∀ (c : Instr) (s t : State), exec c s = .next t → c ≠ .faultDrop → c ≠ .pwrResetAssert →
    s.log <+: t.log ∧ s.overflow.toNat ≤ t.overflow.toNat) ∧
  (∀ (c : Instr) (s t : State), exec c s = .next t → s.responses <+: t.responses)

/-! ### The management link -/

/-- The bytes of the frame of a link command: its code, then its arguments in the order of sections 13.1 to 13.3, each least
significant byte first. The bits of the frame, most significant bit of each byte first, decode to
that command. -/
def Obligations.FrameRoundTrip : Prop :=
  (∀ (b sel g : Byte) (base : Addr) (n v : BitVec 16) (im : ApertureImage) (c : ConfigImage),
    encodeFrame .identify = some [0x01#8] ∧ encodeFrame .status = some [0x02#8] ∧
    encodeFrame (.apertureRead b) = some [0x10#8, b] ∧
    encodeFrame (.apertureWrite b im) = some ([0x11#8, b] ++ leBytes 5 im.base.toNat ++
      [im.sizeExp, im.kind, im.permitted, im.queue] ++ leBytes 2 im.reported.toNat ++ [im.operation] ++
      leBytes 8 im.mask.toNat ++ leBytes 5 im.targetBase.toNat) ∧
    encodeFrame (.apertureEnable b) = some [0x12#8, b] ∧ encodeFrame (.apertureDisable b) = some [0x13#8, b] ∧
    encodeFrame (.queueConfigRead b) = some [0x20#8, b] ∧
    encodeFrame (.queueConfigWrite b c) = some ([0x21#8, b, c.cellLen] ++ leBytes 2 c.limit.toNat ++
      [c.policy, c.divertTarget, c.report] ++ leBytes 8 c.emptyPattern.toNat ++ leBytes 2 c.takeWait.toNat ++
      leBytes 2 c.putWait.toNat ++ leBytes 2 c.watermark.toNat ++ [c.line, c.eventMask]) ∧
    encodeFrame (.queueEnable b) = some [0x22#8, b] ∧ encodeFrame (.queueDisable b) = some [0x23#8, b] ∧
    encodeFrame (.queueFlush b) = some [0x24#8, b] ∧ encodeFrame (.queueStateRead b) = some [0x25#8, b] ∧
    encodeFrame (.countersClear b) = some [0x26#8, b] ∧ encodeFrame (.eventsClear b sel) = some [0x27#8, b, sel] ∧
    encodeFrame (.poolConfig base n g) = some ([0x30#8] ++ leBytes 5 base.toNat ++ leBytes 2 n.toNat ++ [g]) ∧
    encodeFrame (.tickConfig v) = some ([0x31#8] ++ leBytes 2 v.toNat) ∧ encodeFrame .steerOn = some [0x32#8] ∧
    encodeFrame .steerOff = some [0x33#8] ∧ encodeFrame (.lineConfig b) = some [0x34#8, b] ∧
    encodeFrame .faultPeek = some [0x40#8] ∧ encodeFrame .faultDrop = some [0x41#8] ∧
    encodeFrame (.unknownCommand b) = some [b]) ∧
  ∀ (c : Instr) (bytes : List Byte), c.wf = true → encodeFrame c = some bytes →
    decodeFrame (bytesOfBits bytes.length (bitsOf bytes)) = some c

/-- FRAME_START, FRAME_END, FRAME_ABORT, RESPONSE_CUT and UNKNOWN_COMMAND, and the bytes of a command clocked in a frame whose
command has been carried out. FRAME_START begins a frame at the command phase, but starts nothing where select is asserted
already, as PWR_RESET may find it, or while PWR_RESET is asserted; a release outside any frame is seen. MDO carries zero while
the command is received, and outside any frame, where that is the model's choice (log 13); then the status byte and the reply
data, most significant bit first, then zero; bytes clocked in are ignored, and what a cut has not sent is lost. That a frame is held as these events, by whole bytes, is the model's choice (log
13), and so are the log of MDO's bits (log 10) and what a row does in a phase it does not name (log 1). -/
def Obligations.FrameEvents : Prop :=
  (∀ s : State, s.select = false → s.pwrReset = false →
    exec .frameStart s = .next { s with select := true, frame := .receiving }) ∧
  (∀ s : State, s.select = false → s.pwrReset = true →
    exec .frameStart s = .next { s with select := true, frame := .outside }) ∧
  (∀ s : State, s.select = true → exec .frameStart s = .next s) ∧
  (∀ s : State, s.frame = .outside → ∀ c ∈ [Instr.frameEnd, .frameAbort, .responseCut],
    exec c s = .next { s with select := false }) ∧
  (∀ n, Frame.outside.mdo n = false) ∧
  (∀ (s : State) (c : Instr) (bytes : List Byte), s.frame = .outside → encodeFrame c = some bytes → exec c s = .next s) ∧
  (∀ s : State, s.frame = .receiving → (∀ n, s.frame.mdo n = false) ∧
    exec .frameAbort s = .next { s with select := false, frame := .outside } ∧
    exec .frameEnd s = .next s ∧ exec .responseCut s = .next s) ∧
  (∀ (s : State) (left : List Byte), s.frame = .responding left →
    (∀ n, s.frame.mdo n = (bitsOf left).getD n false) ∧
    exec .frameEnd s = .next { s with select := false, frame := .outside, mdoSent := s.mdoSent ++ bitsOf left } ∧
    (left ≠ [] → exec .responseCut s = .next { s with select := false, frame := .outside }) ∧
    (left = [] → exec .responseCut s = .next s) ∧ exec .frameAbort s = .next s) ∧
  (∀ (s : State) (left bytes : List Byte) (c : Instr), s.frame = .responding left → c.wf = true →
    encodeFrame c = some bytes →
    exec c s = .next
      { s with frame := .responding (left.drop bytes.length),
               mdoSent := s.mdoSent ++ bitsOf (left.take bytes.length) ++
                 List.replicate (8 * (bytes.length - left.length)) false }) ∧
  (∀ (s : State) (code : Byte), s.frame = .receiving →
    code.toNat ∉ [0x01, 0x02, 0x10, 0x11, 0x12, 0x13, 0x20, 0x21, 0x22, 0x23, 0x24, 0x25, 0x26, 0x27, 0x30, 0x31, 0x32,
      0x33, 0x34, 0x40, 0x41] →
    exec (.unknownCommand code) s = .next (s.replied 0x05#8 []))

/-- While a flush is pending every link command but STATUS, IDENTIFY and QUEUE_STATE_READ is answered BUSY; otherwise one with
an argument field that its encoding does not allow is answered BADARG, QUEUE_STATE_READ in every case; either changes nothing
else. -/
def Obligations.RefusedByTheLink : Prop :=
  (∀ (c : Instr) (s : State) (q : QueueId), busyCommand c = true → s.frame = .receiving → s.pendingCmd = .pending q →
    exec c s = .next (s.replied 0x02#8 [])) ∧
  (∀ (c : Instr) (s : State), s.linkReady → badArgument c → exec c s = .next (s.replied 0x04#8 [])) ∧
  (∀ (b : Byte) (s : State), s.frame = .receiving → 15 < b.toNat →
    exec (.queueStateRead b) s = .next (s.replied 0x04#8 []))

/-- IDENTIFY, STATUS and QUEUE_STATE_READ are answered with a flush pending or not, with the bytes of sections 13.3 and 13.4,
and change nothing. The counts of held requests and bindings are those of the occupied slots and entries that pass the test. -/
def Obligations.IdentifyAndStatus : Prop :=
  (∀ s : State,
    (∀ p, s.countHeld p = (List.finRange 8).countP (fun k : SlotId => (s.slots[k]).any p)) ∧
    (∀ p, s.countPut p = (List.finRange 16).countP (fun e : EntryId => (s.putTable[e]).any p)) ∧
    (∀ p, s.countTake p = (List.finRange 16).countP (fun e : EntryId => (s.takeTable[e]).any p))) ∧
  (∀ s : State, s.frame = .receiving →
    exec .identify s = .next (s.replied 0x00#8
      [0x35#8, 0x0A#8, 0x16#8, 0x00#8, 0x01#8, 8#8, 16#8, 16#8, 16#8, 16#8, 8#8, 4#8, 8#8, 0x00#8, 0x04#8,
       if s.steering = .on then 1#8 else 0#8]) ∧
    exec .status s = .next (s.replied 0x00#8
      ((match s.pendingCmd with
        | .idle => [0#8, 0#8, 0#8, 0#8]
        | .pending q => [1#8, 0x24#8, BitVec.ofNat 8 q.val, 0#8]
        | .complete q => [2#8, 0x24#8, BitVec.ofNat 8 q.val, 0#8]) ++
       [if s.steering = .on then 1#8 else 0#8] ++ leBytes 2 s.poolSize ++ leBytes 2 s.freeList.length ++
       [if s.drain then 1#8 else 0#8]))) ∧
  (∀ (s : State) (b : Byte) (q : QueueId), s.frame = .receiving → b.toNat = q.val →
    exec (.queueStateRead b) s = .next (s.replied 0x00#8
      ([match (s.queue q).state with
        | .rest .disabled => 0#8
        | .rest .enabled => 1#8
        | .flushing .disabled => 2#8
        | .flushing .enabled => 6#8] ++
       leBytes 2 (s.queue q).committed.length ++ leBytes 2 (s.available q) ++ leBytes 1 (s.takenCount q) ++
       leBytes 1 (s.queue q).openCount ++ leBytes 2 (s.holding q) ++ leBytes 2 (s.queue q).nextSeq.toNat ++
       leBytes 2 (s.queue q).lost.toNat ++ leBytes 2 (s.queue q).underrun.toNat ++
       leBytes 2 (s.queue q).expired.toNat ++ leBytes 2 (s.queue q).divertedOut.toNat ++
       [BitVec.ofNat 8 (s.flags[q].lost.toNat + 2 * s.flags[q].underrun.toNat + 4 * s.flags[q].watermark.toNat +
          8 * s.flags[q].expired.toNat + 16 * s.flags[q].diverted.toNat + 32 * s.flags[q].ready.toNat)] ++
       leBytes 1 (s.countHeld (fun h => decide (h.kind = .put ∧ h.queue = q))) ++
       leBytes 1 (s.countHeld (fun h => decide (h.kind = .take ∧ h.queue = q))) ++
       leBytes 1 (s.countPut (fun p => decide ((p.origin = q ∨ p.target = q) ∧ p.state ≠ .phantom ∧ p.state ≠ .voided))) ++
       leBytes 1 (s.countPut (fun p => decide ((p.origin = q ∨ p.target = q) ∧ p.state = .phantom))) ++
       leBytes 1 (s.countPut (fun p => decide ((p.origin = q ∨ p.target = q) ∧ p.state = .voided))) ++
       leBytes 1 (s.countTake (fun p => decide (p.queue = q ∧ p.state ≠ .voided))) ++
       leBytes 1 (s.countTake (fun p => decide (p.queue = q ∧ p.state = .voided))))))

/-- APERTURE_READ, QUEUE_CONFIG_READ and FAULT_PEEK return the stored fields, byte by byte, and change nothing. -/
def Obligations.ReadReplies : Prop :=
  (∀ (s : State) (b : Byte) (k : ApId), s.linkReady → b.toNat = k.val →
    exec (.apertureRead b) s = .next (s.replied 0x00#8
      ([if s.apertures[k].enabled then 1#8 else 0#8] ++ leBytes 5 s.apertures[k].base.toNat ++
       [s.apertures[k].sizeExp,
        (match s.apertures[k].kind with
         | .queue => 0#8
         | .summary => 1#8
         | .merge => 2#8),
        s.apertures[k].permitted, BitVec.ofNat 8 s.apertures[k].queue.val] ++
       leBytes 2 s.apertures[k].reported.toNat ++
       [match s.apertures[k].op with
        | .set => 0#8
        | .clear => 1#8
        | .flip => 2#8
        | .add => 3#8
        | .cond => 4#8] ++
       leBytes 8 s.apertures[k].mask.toNat ++ leBytes 5 s.apertures[k].targetBase.toNat))) ∧
  (∀ (s : State) (b : Byte) (q : QueueId), s.linkReady → b.toNat = q.val →
    exec (.queueConfigRead b) s = .next (s.replied 0x00#8
      ([BitVec.ofNat 8 (s.queue q).config.cellLen.val] ++ leBytes 2 (s.queue q).config.limit ++
       [(match (s.queue q).config.policy with
         | .dropNew => 0#8
         | .displaceOldest => 1#8
         | .divert => 2#8
         | .hold => 3#8),
        (match (s.queue q).config.divertTarget with
         | none => 0xFF#8
         | some d => BitVec.ofNat 8 d.val),
        if (s.queue q).config.report then 1#8 else 0#8] ++
       leBytes 8 (s.queue q).config.emptyPattern.toNat ++ leBytes 2 (s.queue q).config.takeWait.toNat ++
       leBytes 2 (s.queue q).config.putWait.toNat ++ leBytes 2 (s.queue q).config.watermark ++
       [(match (s.queue q).config.line with
         | .a => 0#8
         | .b => 1#8),
        BitVec.ofNat 8 (s.queue q).config.eventMask.toNat]))) ∧
  (∀ s : State, s.linkReady → s.log = [] → exec .faultPeek s = .next (s.replied 0x00#8 (List.replicate 17 0#8))) ∧
  (∀ (s : State) (r : FaultRecord) (rest : List FaultRecord), s.linkReady → s.log = r :: rest →
    exec .faultPeek s = .next (s.replied 0x00#8
      ([1#8,
        (match r.kind with
         | .permission => 0#8
         | .boundary => 1#8
         | .misalign => 2#8
         | .wrongWay => 3#8
         | .disabled => 4#8
         | .noBinding => 5#8
         | .memory => 6#8
         | .arena => 7#8
         | .addPartial => 8#8
         | .denied => 9#8),
        BitVec.ofNat 8 ((if r.init.isSome then 1 else 0) + (if r.addr.isSome then 2 else 0) +
          (if r.aperture.isSome then 4 else 0) + (if r.queue.isSome then 8 else 0)),
        BitVec.ofNat 8 ((r.init.map Fin.val).getD 0)] ++ leBytes 5 ((r.addr.map BitVec.toNat).getD 0) ++
       [BitVec.ofNat 8 ((r.aperture.map Fin.val).getD 0), BitVec.ofNat 8 ((r.queue.map Fin.val).getD 0)] ++
       leBytes 4 r.stamp.toNat ++ [BitVec.ofNat 8 (rest.length + 1), s.overflow])))

/-- APERTURE_WRITE, APERTURE_ENABLE and APERTURE_DISABLE. -/
def Obligations.ApertureCommands : Prop :=
  ∀ (s : State) (b : Byte) (k : ApId), s.linkReady → b.toNat = k.val →
    (∀ a : Aperture, s.apertures[k].enabled = false →
      exec (.apertureWrite b a.image) s = .next
        (({ s with apertures := s.apertures.set k { a with enabled := false } } : State).replied 0x00#8 [])) ∧
    (∀ a : Aperture, s.apertures[k].enabled = true →
      exec (.apertureWrite b a.image) s = .next ((s.appendRecord (s.deniedRecord none)).replied 0x03#8 [])) ∧
    (s.apertures[k].enabled = true → exec (.apertureEnable b) s = .next (s.replied 0x00#8 [])) ∧
    (s.apertures[k].enabled = false → EntryValid s s.apertures[k] →
      exec (.apertureEnable b) s = .next
        (({ s with apertures := s.apertures.set k { s.apertures[k] with enabled := true } } : State).replied 0x00#8 [])) ∧
    (s.apertures[k].enabled = false → ¬ EntryValid s s.apertures[k] →
      exec (.apertureEnable b) s = .next (s.replied 0x04#8 [])) ∧
    exec (.apertureDisable b) s = .next
      (({ s with apertures := s.apertures.set k { s.apertures[k] with enabled := false } } : State).replied 0x00#8 [])

/-- QUEUE_CONFIG_WRITE is accepted for a DISABLED queue that no binding names and whose holding the new Limit covers, and is
DENIED otherwise. That a FLUSHING queue denies it with no flush pending is the model's choice (log 16). -/
def Obligations.QueueConfigWritten : Prop :=
  ∀ (s : State) (b : Byte) (q : QueueId) (c : QueueConfig), s.linkReady → b.toNat = q.val → c.inRange →
    ((s.queue q).state = .rest .disabled → Unbound s q → s.holding q ≤ c.limit →
      exec (.queueConfigWrite b c.image) s = .next
        (({ s with queues := s.queues.set q { s.queue q with config := c, nextSeq := 0#16 } } : State).replied 0x00#8 [])) ∧
    (((s.queue q).state ≠ .rest .disabled ∨ ¬ Unbound s q ∨ c.limit < s.holding q) →
      exec (.queueConfigWrite b c.image) s = .next ((s.appendRecord (s.deniedRecord (some q))).replied 0x03#8 []))

/-- QUEUE_ENABLE, TICK_CONFIG, LINE_CONFIG, STEER_ON, and STEER_OFF, which is DONE when steering is OFF or the part is quiet
and BUSY otherwise. -/
def Obligations.PlainSettings : Prop :=
  (∀ (s : State) (b : Byte) (q : QueueId), s.linkReady → b.toNat = q.val → s.poolSize = 0 →
    exec (.queueEnable b) s = .next ((s.appendRecord (s.deniedRecord (some q))).replied 0x03#8 [])) ∧
  (∀ (s : State) (b : Byte) (q : QueueId) (r : RestState), s.linkReady → b.toNat = q.val → s.poolSize ≠ 0 →
    (s.queue q).state = .rest r →
    exec (.queueEnable b) s = .next
      (({ s with queues := s.queues.set q { s.queue q with state := .rest .enabled } } : State).replied 0x00#8 [])) ∧
  (∀ (s : State) (n : BitVec 16), s.linkReady →
    exec (.tickConfig n) s = .next
      (({ s with tickInterval := n.toNat + 1, tickElapsed := 0 } : State).replied 0x00#8 [])) ∧
  (∀ (s : State) (b : Byte) (l : Option Line), s.linkReady →
    (b.toNat = match l with
      | none => 0
      | some .a => 1
      | some .b => 2) →
    exec (.lineConfig b) s = .next (({ s with faultRouting := l } : State).replied 0x00#8 [])) ∧
  (∀ s : State, s.linkReady → exec .steerOn s = .next (({ s with steering := .on } : State).replied 0x00#8 [])) ∧
  (∀ s : State, s.linkReady →
    (s.steering = .off → exec .steerOff s = .next (s.replied 0x00#8 [])) ∧
    (s.steering = .on → PartQuiet s →
      exec .steerOff s = .next (({ s with steering := .off } : State).replied 0x00#8 [])) ∧
    (s.steering = .on → ¬ PartQuiet s → exec .steerOff s = .next (s.replied 0x02#8 [])))

/-- POOL_CONFIG rebuilds the pool while steering is OFF and every cell is FREE, and is DENIED otherwise. -/
def Obligations.PoolRebuilt : Prop :=
  ∀ (s : State) (base : Addr) (n : Nat) (g : Bool), s.linkReady → base.toNat % 262144 = 0 →
    (n = 0 ∨ (16 ≤ n ∧ n ≤ 1024 ∧ n % 16 = 0)) →
    (s.steering = .off → (∀ x ∈ s.cells, x.state = .free) →
      exec (.poolConfig base (BitVec.ofNat 16 n) (if g then 1#8 else 0#8)) s = .next
        (({ s with arenaBase := base, poolSize := n, guardOn := g, cells := List.replicate n Cell.freed,
                   freeList := List.range n } : State).replied 0x00#8 [])) ∧
    ((s.steering = .on ∨ ∃ x ∈ s.cells, x.state ≠ .free) →
      exec (.poolConfig base (BitVec.ofNat 16 n) (if g then 1#8 else 0#8)) s = .next
        ((s.appendRecord (s.deniedRecord none)).replied 0x03#8 []))

/-- QUEUE_DISABLE of an ENABLED queue releases its held requests in arrival order, each answered in its turn; of another queue
it changes nothing. -/
def Obligations.DisableReleasesHeld : Prop :=
  ∀ (s : State) (b : Byte) (q : QueueId), s.linkReady → b.toNat = q.val →
    ((s.queue q).state = .rest .disabled → exec (.queueDisable b) s = .next (s.replied 0x00#8 [])) ∧
    ((s.queue q).state = .rest .enabled → s.arrival.Nodup →
      ∃ t, exec (.queueDisable b) s = .next t ∧
        AnsweredAll ((s.heldOn q).map (fun x =>
          match x.kind with
          | .take => { init := x.init, code := .ok, data := x.req.body.fill (s.queue q).config.emptyPattern }
          | .put => { init := x.init, code := .fault, data := [] })) s t ∧
        t.arrival = s.arrival.filter (fun k => !((s.slots[k]).any (fun x => decide (x.queue = q)))) ∧
        (∀ k, (HoldsOn s q k → t.slots[k] = none) ∧ (¬ HoldsOn s q k → t.slots[k] = s.slots[k])) ∧
        (t.queue q).underrun = satInc^[(s.heldOn q).countP (fun x => decide (x.kind = .take))] (s.queue q).underrun ∧
        (t.log, t.overflow) =
          (let u := ((s.heldOn q).filter (fun x => decide (x.kind = .put))).foldl (fun (u : State) x => u.appendRecord
              (s.faultRecord .disabled x.init x.req.addr (some x.access.aperture) (some q))) s
           (u.log, u.overflow)) ∧
        t = ({ s.port t with
                 slots := t.slots, arrival := t.arrival, log := t.log, overflow := t.overflow,
                 frame := .responding [0x00#8],
                 flags := s.flags.set q
                   { s.flags[q] with underrun :=
                       s.flags[q].underrun || (s.heldOn q).any (fun x => decide (x.kind = .take)) },
                 queues := s.queues.set q { s.queue q with state := .rest .disabled,
                                                           underrun := (t.queue q).underrun } } : State).notify)

/-- QUEUE_FLUSH starts the flush: the queue is FLUSHING, its held requests are answered FAIL in arrival order, and the flush
completes in the same step exactly when its cells are quiet and no reset drain is set. So it does, with the accounting that
AccountingKept says every step keeps, when N is 0 or steering is OFF, after a SYS_RESET as at any other time (R108). -/
def Obligations.FlushStarts : Prop :=
  (∀ (s : State) (q : QueueId), Accounted s → (s.poolSize = 0 ∨ s.steering = .off) → Drained s q ∧ s.drain = false) ∧
  ∀ (s : State) (b : Byte) (q : QueueId) (r : RestState), s.linkReady → b.toNat = q.val →
    (s.queue q).state = .rest r → s.arrival.Nodup →
    ∃ u : State,
      AnsweredAll ((s.heldOn q).map (fun x =>
        { init := x.init, code := .fail, data := x.req.body.fill (s.queue q).config.emptyPattern })) s u ∧
      u.arrival = s.arrival.filter (fun k => !((s.slots[k]).any (fun x => decide (x.queue = q)))) ∧
      (∀ k, (HoldsOn s q k → u.slots[k] = none) ∧ (¬ HoldsOn s q k → u.slots[k] = s.slots[k])) ∧
      u = { s.port u with
              slots := u.slots, arrival := u.arrival, pendingCmd := .pending q,
              queues := s.queues.set q { s.queue q with state := .flushing r } } ∧
      (Drained s q → s.drain = false → exec (.queueFlush b) s = .next ((completeFlush q u).replied 0x00#8 [])) ∧
      ((¬ Drained s q ∨ s.drain = true) → exec (.queueFlush b) s = .next (u.replied 0x01#8 []))

/-- FLUSH_COMPLETION: the cells of the committed list, head first, and then the OPEN cells in ascending order of the entries
that hold them join the Free List with their fields cleared; the bindings concerned become VOIDED in their entries; the queue
returns to its prior state with no cell; the room is offered; and the link records the completion (R111, R112). An
acknowledgement tests the flush of the queue that owned its cell, and takes the completion in its step when the queue is
FLUSHING, its cells are quiet and no reset drain is set; otherwise the test changes nothing (R110). As a command of its own
FLUSH_COMPLETION is the step the model makes in the step of its cause (log 5). -/
def Obligations.FlushCompletes : Prop :=
  (∀ (s : State) (q : QueueId) (r : RestState), (s.queue q).state = .flushing r →
    completeFlush q s =
      let cells := (s.queue q).committed ++ s.openCells q
      let u := offerRoom
        { s with
            cells := s.cells.mapIdx (fun c x => if c ∈ cells then Cell.freed else x), freeList := s.freeList ++ cells,
            putTable := s.putTable.map (Option.map (fun b => if b.target = q then { b with state := .voided } else b)),
            takeTable := s.takeTable.map (Option.map (fun b => if b.queue = q then { b with state := .voided } else b)),
            queues := s.queues.set q { s.queue q with committed := [], openCount := 0, state := .rest r } }
      { u with pendingCmd := match s.pendingCmd with
          | .pending p => .complete p
          | .idle => .idle
          | .complete p => .complete p }) ∧
  (∀ (s : State) (q : QueueId), ∃ entries : List EntryId, entries.Pairwise (· < ·) ∧
    (∀ e, e ∈ entries ↔ ∃ b c, s.putTable[e] = some b ∧ b.target = q ∧ b.state = .active c) ∧
    List.Forall₂ (fun (e : EntryId) c => ∃ b, s.putTable[e] = some b ∧ b.state = .active c) entries (s.openCells q)) ∧
  (∀ (s : State) (q : QueueId), (s.queue q).isFlushing = true → Drained s q → s.drain = false →
    exec (.flushCompletion q) s = .next (completeFlush q s).notify ∧ tryFlushOwner (some q) s = completeFlush q s) ∧
  (∀ (s : State) (q : QueueId), ((s.queue q).isFlushing = false ∨ ¬ Drained s q ∨ s.drain = true) →
    exec (.flushCompletion q) s = .next s ∧ tryFlushOwner (some q) s = s) ∧
  (∀ s : State, tryFlushOwner none s = s)

/-! ### System port -/

/-- REQUEST_ACCEPT: the offer joins the initiator's waiting offers, and the oldest of them is accepted with its decode when
neither reset is asserted and the channel holds fewer than four requests. That the oldest waiting offer is taken, one for each
acceptance, is the model's choice (log 11). A request carries 1 to 16 beats (R156). -/
def Obligations.RequestAccepted : Prop :=
  (∀ r : Request, r.wf = true ↔ 1 ≤ r.body.count ∧ r.body.count ≤ 16) ∧
  (∀ (s : State) (i : InitId) (r first : Request) (rest : List Request), r.wf = true →
    s.offers[i] ++ [r] = first :: rest → s.pwrReset = false → s.sysReset = false → s.channels[i].length < 4 →
    exec (.requestAccept i (some r)) s = .next
      { s with offers := s.offers.set i rest,
               channels := s.channels.set i
                 (s.channels[i] ++ [{ req := first, decoded := decodeRequest s i first }]) }) ∧
  (∀ (s : State) (i : InitId) (r : Request), r.wf = true →
    (s.pwrReset = true ∨ s.sysReset = true ∨ 4 ≤ s.channels[i].length) →
    exec (.requestAccept i (some r)) s = .next { s with offers := s.offers.set i (s.offers[i] ++ [r]) }) ∧
  (∀ (s : State) (i : InitId) (first : Request) (rest : List Request), s.offers[i] = first :: rest →
    s.pwrReset = false → s.sysReset = false → s.channels[i].length < 4 →
    exec (.requestAccept i none) s = .next
      { s with offers := s.offers.set i rest,
               channels := s.channels.set i
                 (s.channels[i] ++ [{ req := first, decoded := decodeRequest s i first }]) })

/-- The decode of a hit on a QUEUE entry that suits its queue, for a permitted initiator and an aligned start: BOUNDARY when
its beats leave a quarter or touch slack, then WRONG_WAY for a write to the take or peek window, else the access with its
quarter and word index. -/
def Obligations.QueueHitDecoded : Prop :=
  ∀ (s : State) (i : InitId) (r : Request) (k : ApId),
    s.steering = .on → s.hit r.addr = some k → s.apertures[k].kind = .queue →
    s.apertures[k].permitted.getLsbD i.val = true → r.addr &&& 7#40 = 0#40 → r.wf = true →
    let a := s.apertures[k]
    let words := 2 ^ (s.queue a.queue).config.cellLen.val
    let w := max 64 (8 * words)
    let off := r.addr.toNat - a.base.toNat
    a.base.toNat % 2 ^ a.sizeExp.toNat = 0 → 2 ^ a.sizeExp.toNat = 4 * w →
    ((∃ j < r.body.count, (off + 8 * j) / w ≠ off / w ∨ (off / w ≠ 2 ∧ words ≤ (off + 8 * j) % w / 8)) →
      decodeRequest s i r = .refused .boundary (some k) (some a.queue)) ∧
    ((∀ j < r.body.count, (off + 8 * j) / w = off / w ∧ (off / w = 2 ∨ (off + 8 * j) % w / 8 < words)) →
      (r.body.isWrite = true → (off / w = 1 ∨ off / w = 3) →
        decodeRequest s i r = .refused .wrongWay (some k) (some a.queue)) ∧
      ((r.body.isWrite = false ∨ off / w = 0 ∨ off / w = 2) →
        decodeRequest s i r = .queue
          { queue := a.queue, first := off % w / 8, aperture := k, cellLen := (s.queue a.queue).config.cellLen,
            window := match off / w with
              | 0 => .put
              | 1 => .take
              | 2 => .control
              | _ => .peek }))

/-- The other decodes: OFF, the permission, alignment and size checks of a hit, SUMMARY and MERGE hits, and misses with the
arena guard, which applies while steering is ON, the pool has cells and the guard is on, to a range that has a byte in the
arena (R123). -/
def Obligations.DecodeChecks : Prop :=
  (∀ s : State, s.guardApplies = true ↔ s.steering = .on ∧ 0 < s.poolSize ∧ s.guardOn = true) ∧
  (∀ (s : State) (addr : Addr) (n : Nat), 1 ≤ n → 1 ≤ s.poolSize →
    (s.inArena addr n = true ↔ ∃ x < 8 * n, ∃ y < 256 * s.poolSize,
      addr + BitVec.ofNat 40 x = s.arenaBase + BitVec.ofNat 40 y)) ∧
  (∀ (s : State) (i : InitId) (r : Request), s.steering = .off → decodeRequest s i r = .passThrough) ∧
  (∀ (s : State) (addr : Addr) (k : ApId), s.hit addr = some k ↔
    (s.apertures[k].enabled = true ∧ s.apertures[k].base.toNat ≤ addr.toNat ∧
      addr.toNat < s.apertures[k].base.toNat + 2 ^ s.apertures[k].sizeExp.toNat ∧
      ∀ j : ApId, j < k → ¬ (s.apertures[j].enabled = true ∧ s.apertures[j].base.toNat ≤ addr.toNat ∧
        addr.toNat < s.apertures[j].base.toNat + 2 ^ s.apertures[j].sizeExp.toNat))) ∧
  (∀ (s : State) (i : InitId) (r : Request), s.steering = .on → s.hit r.addr = none → r.wf = true →
    ((s.poolSize ≠ 0 ∧ s.guardOn = true ∧ ∃ x < 8 * r.body.count, ∃ y < 256 * s.poolSize,
        r.addr + BitVec.ofNat 40 x = s.arenaBase + BitVec.ofNat 40 y) → s.poolSize ≤ 1024 →
      decodeRequest s i r = .refused .arena none none) ∧
    (¬ (s.poolSize ≠ 0 ∧ s.guardOn = true ∧ ∃ x < 8 * r.body.count, ∃ y < 256 * s.poolSize,
        r.addr + BitVec.ofNat 40 x = s.arenaBase + BitVec.ofNat 40 y) →
      decodeRequest s i r = .passThrough)) ∧
  (∀ (s : State) (i : InitId) (r : Request) (k : ApId), s.steering = .on → s.hit r.addr = some k →
    let a := s.apertures[k]
    let named : Option QueueId := if a.kind = .queue then some a.queue else none
    let size := 2 ^ a.sizeExp.toNat
    let last := r.addr.toNat - a.base.toNat + 8 * r.body.count
    (a.permitted.getLsbD i.val = false → decodeRequest s i r = .refused .permission (some k) named) ∧
    (a.permitted.getLsbD i.val = true → r.addr &&& 7#40 ≠ 0#40 →
      decodeRequest s i r = .refused .misalign (some k) named) ∧
    (a.permitted.getLsbD i.val = true → r.addr &&& 7#40 = 0#40 →
      (a.kind = .queue → size ≠ 4 * max 64 (8 * 2 ^ (s.queue a.queue).config.cellLen.val) →
        decodeRequest s i r = .refused .boundary (some k) (some a.queue)) ∧
      (a.kind = .summary → size < last → decodeRequest s i r = .refused .boundary (some k) none) ∧
      (a.kind = .summary → last ≤ size → r.body.isWrite = true →
        decodeRequest s i r = .refused .wrongWay (some k) none) ∧
      (a.kind = .summary → last ≤ size → r.body.isWrite = false → decodeRequest s i r = .summary a.reported k) ∧
      (a.kind = .merge → size < last → decodeRequest s i r = .refused .boundary (some k) none) ∧
      (a.kind = .merge → last ≤ size → s.guardApplies = true →
        s.inArena (r.addr - a.base + a.targetBase) r.body.count = true →
        decodeRequest s i r = .refused .arena (some k) none) ∧
      (a.kind = .merge → last ≤ size →
        (s.guardApplies = false ∨ s.inArena (r.addr - a.base + a.targetBase) r.body.count = false) →
        decodeRequest s i r = .merge a.op a.mask (r.addr - a.base + a.targetBase) k)))

/-- AD_REFUSAL_ANSWER: FAULT with zero in every data beat and one record. The terms of this and the other statements about
requests: a READ names its number of beats and is answered one word for each; a WRITE carries its beats and is answered the code
alone (R156, R159). -/
def Obligations.RefusalAnswered : Prop :=
  (∀ (n : Nat) (w : Word), (Body.read n).count = n ∧ (Body.read n).isWrite = false ∧ (Body.read n).writeBeats = [] ∧
    (Body.read n).fill w = List.replicate n w) ∧
  (∀ (bs : List WriteBeat) (w : Word), (Body.write bs).count = bs.length ∧ (Body.write bs).isWrite = true ∧
    (Body.write bs).writeBeats = bs ∧ (Body.write bs).fill w = []) ∧
  ∀ (s : State) (i : InitId) (r : Request) (kind : FaultKind) (k : Option ApId) (q : Option QueueId),
    Current s i r (.refused kind k q) →
    ∃ t, exec (.adRefusalAnswer i) s = .next t ∧ Answered i .fault (r.body.fill 0#64) s t ∧
      t = ((s.port t).appendRecord (s.faultRecord kind i r.addr k q)).notify

/-- PASS_THROUGH hands the request over unchanged; PASS_THROUGH_ACK answers it with what memory returned, zero in each
erring beat, and makes no record. -/
def Obligations.PassThroughPerformed : Prop :=
  (∀ (s : State) (i : InitId) (r : Request), Current s i r .passThrough →
    exec (.passThrough i) s = .next
      (handOver { addr := r.addr, body := r.body, owner := .passThrough i, fate := .live }
        { s with taken := s.taken.set i true })) ∧
  (∀ (s : State) (m : MemReq) (beats : List MemBeat) (i : InitId) (r : Request) (d : Decoded),
    Acknowledges s m beats → m.owner = .passThrough i → Performing s i r d →
    ∃ t, exec (.passThroughAck beats) s = .next t ∧
      Answered i (if beats.any MemBeat.error then .fault else .ok)
        (match r.body with
          | .read _ => beats.map (fun b => if b.error then 0#64 else b.data)
          | .write _ => []) s t ∧
      t = (retireHead s).port t)

/-- SUMMARY_READ: OK with one word in every beat: the READY set, the lowest READY queue, the none flag and the fault bit. -/
def Obligations.SummaryAnswered : Prop :=
  ∀ (s : State) (i : InitId) (r : Request) (reported : BitVec 16) (k : ApId), Current s i r (.summary reported k) →
    ∃ t w, exec (.summaryRead i) s = .next t ∧ Answered i .ok (r.body.fill w) s t ∧ t = s.port t ∧
      (∀ q : QueueId, w.getLsbD q.val = (reported.getLsbD q.val && s.flags[q].ready)) ∧
      (∀ q : QueueId, w.getLsbD q.val = true → (∀ p : QueueId, p < q → w.getLsbD p.val = false) →
        field w 16 4 = q.val) ∧
      (w.getLsbD 24 = true ↔ ∀ q : QueueId, w.getLsbD q.val = false) ∧
      (w.getLsbD 24 = true → field w 16 4 = 0) ∧
      (w.getLsbD 32 = true ↔ s.log ≠ []) ∧
      (∀ n, 20 ≤ n → n ≠ 24 → n ≠ 32 → w.getLsbD n = false)

/-! ### Composing messages -/

/-- PUT_WINDOW_WRITE, an opening write on a queue that is not full: the Free List head becomes OPEN for the queue under an
ACTIVE binding in the lowest free entry, and the write goes to the cell. The terms of this and the other window statements: a
word is written when its beat has a strobe set (R34); an access is closing when it covers word L−1 (R37, R60); the available,
taken and holding counts, fullness and the oldest available cell (R19); the lowest-numbered free entry or slot (R28, R51, R89);
the binding of a key and its entry (R27, R50); and the FLUSHING queue (R13). -/
def Obligations.OpeningWriteAllocates : Prop :=
  (∀ (s : State) (i : InitId) (r : Request) (a : QueueAccess) (e : EntryId) (c : Nat) (rest : List Nat),
    WindowTurn .put s i r a → r.body.isWrite = true → s.putBinding i a.queue = none →
    (s.queue a.queue).state = .rest .enabled → s.freePut = some e → s.full a.queue = false → s.freeList = c :: rest →
    exec (.putWindowWrite i) s = .next
      (handOver (s.cellWord i r a a.queue c (.compose (a.closing r.body.count)))
        { s with
            taken := s.taken.set i true, freeList := rest,
            cells := s.cells.set c
              { state := .opened, owner := some a.queue, origin := none, sequence := none,
                written := some (writtenBits a.first r.body.writeBeats), complete := false, damaged := false, pins := 0,
                inFlight := 1 },
            queues := s.queues.set a.queue { s.queue a.queue with openCount := (s.queue a.queue).openCount + 1 },
            putTable := s.putTable.set e
              (some { init := i, origin := a.queue, target := a.queue, state := .active c }) }).notify) ∧
  (∀ (first : Nat) (bs : List WriteBeat) (w : Nat), w < 32 →
    ((writtenBits first bs).getLsbD w = true ↔ ∃ j b, bs[j]? = some b ∧ first + j = w ∧ b.strobes ≠ 0#8)) ∧
  (∀ (a : QueueAccess) (n : Nat), a.closing n = true ↔
    a.first ≤ 2 ^ a.cellLen.val - 1 ∧ 2 ^ a.cellLen.val - 1 < a.first + n) ∧
  (∀ (s : State) (q : QueueId),
    s.available q = (s.queue q).committed.countP (fun c => decide ((s.cell c).state = .queued)) ∧
    s.takenCount q = (s.queue q).committed.countP (fun c => decide ((s.cell c).state = .taken)) ∧
    s.holding q = (s.queue q).openCount + (s.queue q).committed.length +
      (List.range s.cells.length).countP (fun c => decide
        ((s.cell c).state = .taken ∧ (s.cell c).owner = some q ∧ c ∉ (s.queue q).committed)) ∧
    (s.full q = true ↔ (s.queue q).config.limit ≤ s.holding q ∨ s.freeList = []) ∧
    (∀ c, s.oldest q = some c ↔ ∃ before after, (s.queue q).committed = before ++ c :: after ∧
      (s.cell c).state = .queued ∧ ∀ d ∈ before, (s.cell d).state ≠ .queued)) ∧
  (∀ s : State,
    (∀ e, s.freePut = some e ↔ s.putTable[e] = none ∧ ∀ f : EntryId, f < e → s.putTable[f] ≠ none) ∧
    (∀ e, s.freeTake = some e ↔ s.takeTable[e] = none ∧ ∀ f : EntryId, f < e → s.takeTable[f] ≠ none) ∧
    (∀ k, s.freeSlot = some k ↔ s.slots[k] = none ∧ ∀ j : SlotId, j < k → s.slots[j] ≠ none)) ∧
  (∀ (s : State) (i : InitId) (q : QueueId),
    (∀ e b, s.putBinding i q = some (e, b) ↔ s.putTable[e] = some b ∧ b.init = i ∧ b.origin = q ∧
      ∀ (f : EntryId) d, f < e → s.putTable[f] = some d → ¬ (d.init = i ∧ d.origin = q)) ∧
    (∀ e b, s.takeBinding i q = some (e, b) ↔ s.takeTable[e] = some b ∧ b.init = i ∧ b.queue = q ∧
      ∀ (f : EntryId) d, f < e → s.takeTable[f] = some d → ¬ (d.init = i ∧ d.queue = q)) ∧
    s.putEntry i q = (s.putBinding i q).map Prod.fst ∧ s.takeEntry i q = (s.takeBinding i q).map Prod.fst ∧
    ((s.queue q).isFlushing = true ↔ ∃ r, (s.queue q).state = .flushing r))

/-- A window or control-page command waits while the reset drain is set. A window request whose queue has another cell length
than at its decode is answered BOUNDARY. Opening writes, first takes and peeks of a DISABLED or FLUSHING queue are answered
DISABLED or FAIL, and opening writes and first takes that find their binding table full NO_BINDING. -/
def Obligations.AccessesRefused : Prop :=
  (∀ (s : State) (i : InitId), ∀ c ∈ windowCommand i, s.drain = true → exec c s = .next s) ∧
  (∀ (s : State) (i : InitId) (r : Request) (a : QueueAccess) (c : Instr), s.drain = false → Current s i r (.queue a) →
    (s.queue a.queue).config.cellLen ≠ a.cellLen →
    ((a.window = .put ∧ c = .putWindowWrite i ∧ r.body.isWrite = true) ∨
     (a.window = .put ∧ c = .putWindowRead i ∧ r.body.isWrite = false) ∨
     (a.window = .take ∧ c = .takeWindowRead i ∧ r.body.isWrite = false) ∨
     (a.window = .peek ∧ c = .peekRead i ∧ r.body.isWrite = false)) →
    ∃ t, exec c s = .next t ∧ Answered i .fault (r.body.fill 0#64) s t ∧
      t = ((s.port t).appendRecord
        (s.faultRecord .boundary i r.addr (some a.aperture) (some a.queue))).notify) ∧
  ∀ (s : State) (i : InitId) (r : Request) (a : QueueAccess) (w : Window) (c : Instr), WindowTurn w s i r a →
    ((w = .put ∧ c = .putWindowWrite i ∧ r.body.isWrite = true ∧ s.putBinding i a.queue = none) ∨
     (w = .take ∧ c = .takeWindowRead i ∧ r.body.isWrite = false ∧ s.takeBinding i a.queue = none) ∨
     (w = .peek ∧ c = .peekRead i ∧ r.body.isWrite = false)) →
    ((s.queue a.queue).state = .rest .disabled →
      ∃ t, exec c s = .next t ∧ Answered i .fault (r.body.fill (s.queue a.queue).config.emptyPattern) s t ∧
        t = ((s.port t).appendRecord
          (s.faultRecord .disabled i r.addr (some a.aperture) (some a.queue))).notify) ∧
    ((s.queue a.queue).isFlushing = true →
      ∃ t, exec c s = .next t ∧ Answered i .fail (r.body.fill (s.queue a.queue).config.emptyPattern) s t ∧
        t = (s.port t).notify) ∧
    ((s.queue a.queue).state = .rest .enabled → ((w = .put ∧ s.freePut = none) ∨ (w = .take ∧ s.freeTake = none)) →
      ∃ t, exec c s = .next t ∧ Answered i .fault (r.body.fill (s.queue a.queue).config.emptyPattern) s t ∧
        t = ((s.port t).appendRecord
          (s.faultRecord .noBinding i r.addr (some a.aperture) (some a.queue))).notify)

/-- PUT_WINDOW_WRITE, the drop: the lost counter and LOST rise, no cell is taken, and the write makes a PHANTOM binding, or
is answered by the Report flag when it is closing. -/
def Obligations.OpeningWriteDropped : Prop :=
  ∀ (s : State) (i : InitId) (r : Request) (a : QueueAccess) (e : EntryId),
    WindowTurn .put s i r a → r.body.isWrite = true → s.putBinding i a.queue = none →
    (s.queue a.queue).state = .rest .enabled → s.freePut = some e → s.full a.queue = true →
    ((s.queue a.queue).config.policy = .dropNew ∨
     ((s.queue a.queue).config.policy = .displaceOldest ∧ s.eligible a.queue = none) ∨
     ((s.queue a.queue).config.policy = .divert ∧ s.divertTo a.queue = none) ∨
     ((s.queue a.queue).config.policy = .hold ∧ (s.queue a.queue).config.putWait = 0#16)) →
    ∃ t, exec (.putWindowWrite i) s = .next t ∧
      Answered i (if a.closing r.body.count && (s.queue a.queue).config.report then .fail else .ok) [] s t ∧
      t = ({ s.port t with
               queues := s.queues.set a.queue { s.queue a.queue with lost := satInc (s.queue a.queue).lost },
               flags := s.flags.set a.queue { s.flags[a.queue] with lost := true },
               putTable := if a.closing r.body.count then s.putTable
                 else s.putTable.set e
                   (some { init := i, origin := a.queue, target := a.queue, state := .phantom }) } : State).notify

/-- PUT_WINDOW_WRITE under DISPLACE_OLDEST: the chosen cell is the first in committed-list order that is QUEUED, unpinned and
not in flight (R74); it passes to the new composition, and its message is counted lost. -/
def Obligations.OldestDisplaced : Prop :=
  (∀ (s : State) (q : QueueId) (c : Nat), s.eligible q = some c ↔
    ∃ before after, (s.queue q).committed = before ++ c :: after ∧
      ((s.cell c).state = .queued ∧ (s.cell c).pins = 0 ∧ (s.cell c).inFlight = 0) ∧
      ∀ d ∈ before, ¬ ((s.cell d).state = .queued ∧ (s.cell d).pins = 0 ∧ (s.cell d).inFlight = 0)) ∧
  (∀ (s : State) (i : InitId) (r : Request) (a : QueueAccess) (e : EntryId) (c : Nat),
    WindowTurn .put s i r a → r.body.isWrite = true → s.putBinding i a.queue = none →
    (s.queue a.queue).state = .rest .enabled → s.freePut = some e → s.full a.queue = true →
    (s.queue a.queue).config.policy = .displaceOldest → s.eligible a.queue = some c →
    exec (.putWindowWrite i) s = .next
      (handOver (s.cellWord i r a a.queue c (.compose (a.closing r.body.count)))
        { s with
            taken := s.taken.set i true,
            cells := s.cells.set c
              { state := .opened, owner := some a.queue, origin := none, sequence := none,
                written := some (writtenBits a.first r.body.writeBeats), complete := false, damaged := false, pins := 0,
                inFlight := 1 },
            queues := s.queues.set a.queue
              { s.queue a.queue with committed := (s.queue a.queue).committed.erase c,
                                     openCount := (s.queue a.queue).openCount + 1,
                                     lost := satInc (s.queue a.queue).lost },
            flags := s.flags.set a.queue { s.flags[a.queue] with lost := true },
            putTable := s.putTable.set e
              (some { init := i, origin := a.queue, target := a.queue, state := .active c }) }).notify)

/-- PUT_WINDOW_WRITE under DIVERT: the walk visits at most three queues besides the origin, none twice, and the first
acceptable one owns the cell, with the origin recorded and counted. -/
def Obligations.WriteDiverted : Prop :=
  (∀ (s : State) (o q : QueueId),
    let next (p : QueueId) : Option QueueId := (s.queue p).config.divertTarget
    let good (p : QueueId) : Prop := (s.queue p).state = .rest .enabled ∧
      (s.queue p).config.cellLen = (s.queue o).config.cellLen ∧ s.full p = false
    s.divertTo o = some q ↔
      (next o = some q ∧ q ≠ o ∧ good q) ∨
      (∃ p, next o = some p ∧ p ≠ o ∧ ¬ good p ∧ next p = some q ∧ q ≠ o ∧ q ≠ p ∧ good q) ∨
      (∃ p p', next o = some p ∧ p ≠ o ∧ ¬ good p ∧ next p = some p' ∧ p' ≠ o ∧ p' ≠ p ∧ ¬ good p' ∧
        next p' = some q ∧ q ≠ o ∧ q ≠ p ∧ q ≠ p' ∧ good q)) ∧
  (∀ (s : State) (i : InitId) (r : Request) (a : QueueAccess) (e : EntryId) (q : QueueId) (c : Nat) (rest : List Nat),
    WindowTurn .put s i r a → r.body.isWrite = true → s.putBinding i a.queue = none →
    (s.queue a.queue).state = .rest .enabled → s.freePut = some e → s.full a.queue = true →
    (s.queue a.queue).config.policy = .divert → s.divertTo a.queue = some q → s.freeList = c :: rest →
    exec (.putWindowWrite i) s = .next
      (handOver (s.cellWord i r a q c (.compose (a.closing r.body.count)))
        { s with
            taken := s.taken.set i true, freeList := rest,
            cells := s.cells.set c
              { state := .opened, owner := some q, origin := some a.queue, sequence := none,
                written := some (writtenBits a.first r.body.writeBeats), complete := false, damaged := false, pins := 0,
                inFlight := 1 },
            queues := (s.queues.set a.queue
                { s.queue a.queue with divertedOut := satInc (s.queue a.queue).divertedOut }).set q
                { s.queue q with openCount := (s.queue q).openCount + 1 },
            flags := s.flags.set a.queue { s.flags[a.queue] with diverted := true },
            putTable := s.putTable.set e
              (some { init := i, origin := a.queue, target := q, state := .active c }) }).notify)

/-- A request that waits: an opening write on a full queue under HOLD, and a first take of an empty queue, with a wait above
0, take the lowest free slot and the arrival list's tail and change nothing else. A first take with wait 0 is answered
empty. -/
def Obligations.ParkedOrEmpty : Prop :=
  (∀ (s : State) (i : InitId) (r : Request) (a : QueueAccess) (e : EntryId) (k : SlotId),
    WindowTurn .put s i r a → r.body.isWrite = true → s.putBinding i a.queue = none →
    (s.queue a.queue).state = .rest .enabled → s.freePut = some e → s.full a.queue = true →
    (s.queue a.queue).config.policy = .hold → (s.queue a.queue).config.putWait ≠ 0#16 → s.freeSlot = some k →
    exec (.putWindowWrite i) s = .next
      ({ s with
          taken := s.taken.set i true, arrival := s.arrival ++ [k],
          slots := s.slots.set k
            (some { queue := a.queue, kind := .put, init := i, req := r, access := a,
                    deadline := s.tickCount + (s.queue a.queue).config.putWait.setWidth 32 }) } : State).notify) ∧
  (∀ (s : State) (i : InitId) (r : Request) (a : QueueAccess) (e : EntryId) (k : SlotId),
    WindowTurn .take s i r a → r.body.isWrite = false → s.takeBinding i a.queue = none →
    (s.queue a.queue).state = .rest .enabled → s.freeTake = some e → s.oldest a.queue = none →
    (s.queue a.queue).config.takeWait ≠ 0#16 → s.freeSlot = some k →
    exec (.takeWindowRead i) s = .next
      ({ s with
          taken := s.taken.set i true, arrival := s.arrival ++ [k],
          slots := s.slots.set k
            (some { queue := a.queue, kind := .take, init := i, req := r, access := a,
                    deadline := s.tickCount + (s.queue a.queue).config.takeWait.setWidth 32 }) } : State).notify) ∧
  (∀ (s : State) (i : InitId) (r : Request) (a : QueueAccess) (e : EntryId),
    WindowTurn .take s i r a → r.body.isWrite = false → s.takeBinding i a.queue = none →
    (s.queue a.queue).state = .rest .enabled → s.freeTake = some e → s.oldest a.queue = none →
    (s.queue a.queue).config.takeWait = 0#16 →
    ∃ t, exec (.takeWindowRead i) s = .next t ∧
      Answered i .ok (r.body.fill (s.queue a.queue).config.emptyPattern) s t ∧
      t = ({ s.port t with
               queues := s.queues.set a.queue { s.queue a.queue with underrun := satInc (s.queue a.queue).underrun },
               flags := s.flags.set a.queue { s.flags[a.queue] with underrun := true } } : State).notify)

/-- PUT_WINDOW_WRITE through a binding: ACTIVE goes to the cell; ACTIVE or PHANTOM under a FLUSHING target is answered FAIL;
PHANTOM and VOIDED are absorbed, a closing write freeing the binding. -/
def Obligations.BoundWrites : Prop :=
  ∀ (s : State) (i : InitId) (r : Request) (a : QueueAccess) (e : EntryId) (b : PutBinding),
    WindowTurn .put s i r a → r.body.isWrite = true → s.putBinding i a.queue = some (e, b) →
    (∀ c, b.state = .active c → (s.queue b.target).isFlushing = false →
      exec (.putWindowWrite i) s = .next
        (handOver (s.cellWord i r a b.target c (.compose (a.closing r.body.count)))
          { s with
              taken := s.taken.set i true,
              cells := s.cells.set c
                { s.cell c with
                    written := (s.cell c).written.map (fun w => w ||| writtenBits a.first r.body.writeBeats),
                    inFlight := (s.cell c).inFlight + 1 } }).notify) ∧
    (b.state ≠ .voided → (s.queue b.target).isFlushing = true →
      ∃ t, exec (.putWindowWrite i) s = .next t ∧ Answered i .fail [] s t ∧ t = (s.port t).notify) ∧
    (b.state = .phantom → (s.queue b.target).isFlushing = false →
      ∃ t, exec (.putWindowWrite i) s = .next t ∧
        Answered i (if a.closing r.body.count && (s.queue b.origin).config.report then .fail else .ok) [] s t ∧
        t = ({ s.port t with
                 putTable := if a.closing r.body.count then s.putTable.set e none else s.putTable } : State).notify) ∧
    (b.state = .voided →
      ∃ t, exec (.putWindowWrite i) s = .next t ∧ Answered i .fail [] s t ∧
        t = ({ s.port t with
                 putTable := if a.closing r.body.count then s.putTable.set e none else s.putTable } : State).notify)

/-- COMPOSITION_WRITE_ACK, PUT_WINDOW_READ_ACK, TAKE_READ_ACK, and CLOSING_READ_ACK with an error: the in-flight count falls,
the request is answered, an erring write damages the cell, and a flush that this makes ready completes. That CLOSING_READ_ACK
carries the erring closing read is the model's reading (log 20). An erring take read carries the empty pattern as it stood
when the QE took the read (R50, section 3.1); that a put-window read does so too is the model's reading (log 23). That the
MEMORY record comes before the NO_BINDING records of puts a completed flush offers room to is the model's choice (log 27), and
so is that the response stands before those of the puts that the step answers (log 28). -/
def Obligations.AccessAcknowledged : Prop :=
  ∀ (s : State) (x : CellAccess) (r : Request) (a : QueueAccess) (beats : List MemBeat),
    CellAcknowledges s x r a beats →
    (x.use = .compose false ∨ x.use = .putRead ∨ x.use = .take false ∨
      (x.use = .take true ∧ beats.any MemBeat.error = true)) →
    ∃ u, exec (ackCommand x.use beats) s = .next (tryFlushOwner (s.cell x.cell).owner u).notify ∧
      (beats.any MemBeat.error = false →
        Answered x.init .ok
          (match r.body with
            | .read _ => beats.map MemBeat.data
            | .write _ => []) s u ∧
        u = { (retireHead s).port u with
                cells := s.cells.set x.cell { s.cell x.cell with inFlight := (s.cell x.cell).inFlight - 1 } }) ∧
      (beats.any MemBeat.error = true →
        Answered x.init .fault (r.body.fill x.pattern) s u ∧
        u = ({ (retireHead s).port u with
                 cells := s.cells.set x.cell
                   { s.cell x.cell with
                       inFlight := (s.cell x.cell).inFlight - 1,
                       damaged := decide (x.use = .compose false) || (s.cell x.cell).damaged } } : State).appendRecord
              (s.faultRecord .memory x.init r.addr (some a.aperture) (some x.queue)))

/-- CLOSING_WRITE_ACK without error on an undamaged cell: the commit, then the service of a held take. That its response
stands before those of the held requests that the step answers is the model's choice (log 28). -/
def Obligations.ClosingWriteCommits : Prop :=
  ∀ (s : State) (x : CellAccess) (r : Request) (a : QueueAccess) (beats : List MemBeat) (e : EntryId) (ws : BitVec 32),
    CellAcknowledges s x r a beats → r.body.isWrite = true → x.use = .compose true →
    beats.any MemBeat.error = false → (s.cell x.cell).damaged = false → (s.cell x.cell).written = some ws →
    s.putEntry x.init a.queue = some e →
    ∃ u, exec (.closingWriteAck beats) s =
        .next (tryFlushOwner (s.cell x.cell).owner (serveTakes x.queue u)).notify ∧
      Answered x.init .ok [] s u ∧
      u = { (retireHead s).port u with
              cells := s.cells.set x.cell
                { s.cell x.cell with
                    state := .queued, sequence := some (s.queue x.queue).nextSeq, written := none,
                    complete := decide (∀ w < 2 ^ (s.queue x.queue).config.cellLen.val, ws.getLsbD w = true),
                    inFlight := (s.cell x.cell).inFlight - 1 },
              queues := s.queues.set x.queue
                { s.queue x.queue with
                    nextSeq := (s.queue x.queue).nextSeq + 1#16,
                    committed := (s.queue x.queue).committed ++ [x.cell],
                    openCount := (s.queue x.queue).openCount - 1 },
              putTable := s.putTable.set e none,
              flags := if 0 < (s.queue x.queue).config.watermark ∧
                  (s.queue x.queue).committed.length + 1 = (s.queue x.queue).config.watermark then
                s.flags.set x.queue { s.flags[x.queue] with watermark := true } else s.flags }

/-- CLOSING_WRITE_ACK with an error or on a damaged cell: the discard, then the offer of the room. That its MEMORY record comes
before the NO_BINDING records of puts the room is offered to is the model's choice (log 27), and so is that its response
stands before those of the held requests that the step answers (log 28). -/
def Obligations.DamagedDiscarded : Prop :=
  ∀ (s : State) (x : CellAccess) (r : Request) (a : QueueAccess) (beats : List MemBeat) (e : EntryId),
    CellAcknowledges s x r a beats → r.body.isWrite = true → x.use = .compose true →
    (beats.any MemBeat.error = true ∨ (s.cell x.cell).damaged = true) → s.putEntry x.init a.queue = some e →
    ∃ u, exec (.closingWriteAck beats) s = .next (tryFlushOwner (s.cell x.cell).owner (offerRoom u)).notify ∧
      Answered x.init .fault [] s u ∧
      u = ({ (retireHead s).port u with
               cells := s.cells.set x.cell Cell.freed, freeList := s.freeList ++ [x.cell],
               queues := s.queues.set x.queue
                 { s.queue x.queue with openCount := (s.queue x.queue).openCount - 1 },
               putTable := s.putTable.set e none } : State).appendRecord
            (s.faultRecord .memory x.init r.addr (some a.aperture) (some x.queue))

/-- PUT_WINDOW_READ: the empty pattern with no binding or through a PHANTOM or VOIDED one, FAIL when FLUSHING unless VOIDED,
and a memory read through an ACTIVE one. That a VOIDED binding gives its target's pattern is the model's choice (log 17). -/
def Obligations.PutWindowReads : Prop :=
  ∀ (s : State) (i : InitId) (r : Request) (a : QueueAccess), WindowTurn .put s i r a → r.body.isWrite = false →
    (s.putBinding i a.queue = none →
      ∃ t, exec (.putWindowRead i) s = .next t ∧ t = (s.port t).notify ∧
        Answered i (if (s.queue a.queue).isFlushing then .fail else .ok)
          (r.body.fill (s.queue a.queue).config.emptyPattern) s t) ∧
    (∀ e b, s.putBinding i a.queue = some (e, b) →
      (b.state = .voided →
        ∃ t, exec (.putWindowRead i) s = .next t ∧ t = (s.port t).notify ∧
          Answered i .ok (r.body.fill (s.queue b.target).config.emptyPattern) s t) ∧
      (b.state ≠ .voided → (b.state = .phantom ∨ (s.queue b.target).isFlushing = true) →
        ∃ t, exec (.putWindowRead i) s = .next t ∧ t = (s.port t).notify ∧
          Answered i (if (s.queue b.target).isFlushing then .fail else .ok)
            (r.body.fill (s.queue b.target).config.emptyPattern) s t) ∧
      (∀ c, b.state = .active c → (s.queue b.target).isFlushing = false →
        exec (.putWindowRead i) s = .next
          (handOver (s.cellWord i r a b.target c .putRead)
            { s with
                taken := s.taken.set i true,
                cells := s.cells.set c { s.cell c with inFlight := (s.cell c).inFlight + 1 } }).notify))

/-! ### Taking messages -/

/-- TAKE_WINDOW_READ: a first take binds the first QUEUED cell in list order in the lowest free entry and reads it; a read
through an ACTIVE binding reads the bound cell, or is answered FAIL when the queue is FLUSHING. -/
def Obligations.TakeReads : Prop :=
  (∀ (s : State) (q : QueueId) (c : Nat), s.oldest q = some c ↔
    ∃ before after, (s.queue q).committed = before ++ c :: after ∧ (s.cell c).state = .queued ∧
      ∀ d ∈ before, (s.cell d).state ≠ .queued) ∧
  (∀ (s : State) (i : InitId) (r : Request) (a : QueueAccess) (e : EntryId) (c : Nat),
    WindowTurn .take s i r a → r.body.isWrite = false → s.takeBinding i a.queue = none →
    (s.queue a.queue).state = .rest .enabled → s.freeTake = some e → s.oldest a.queue = some c →
    exec (.takeWindowRead i) s = .next
      (handOver (s.cellWord i r a a.queue c (.take (a.closing r.body.count)))
        { s with
            taken := s.taken.set i true,
            cells := s.cells.set c { s.cell c with state := .taken, inFlight := (s.cell c).inFlight + 1 },
            takeTable := s.takeTable.set e (some { init := i, queue := a.queue, state := .active c }) }).notify) ∧
  (∀ (s : State) (i : InitId) (r : Request) (a : QueueAccess) (e : EntryId) (b : TakeBinding) (c : Nat),
    WindowTurn .take s i r a → r.body.isWrite = false → s.takeBinding i a.queue = some (e, b) → b.state = .active c →
    ((s.queue a.queue).isFlushing = false →
      exec (.takeWindowRead i) s = .next
        (handOver (s.cellWord i r a a.queue c (.take (a.closing r.body.count)))
          { s with
              taken := s.taken.set i true,
              cells := s.cells.set c { s.cell c with inFlight := (s.cell c).inFlight + 1 } }).notify) ∧
    ((s.queue a.queue).isFlushing = true →
      ∃ t, exec (.takeWindowRead i) s = .next t ∧ t = (s.port t).notify ∧
        Answered i .fail (r.body.fill (s.queue a.queue).config.emptyPattern) s t))

/-- TAKE_WINDOW_READ through a VOIDED binding: FAIL with the empty pattern in every data beat, whatever the queue's state; a
closing read frees the binding, and with keys unique the initiator then holds none for the queue (R65). -/
def Obligations.VoidedTakeRead : Prop :=
  ∀ (s : State) (i : InitId) (r : Request) (a : QueueAccess) (e : EntryId) (b : TakeBinding) (n : Nat),
    WindowTurn .take s i r a → r.body = .read n → s.takeBinding i a.queue = some (e, b) → b.state = .voided →
    ∃ t, exec (.takeWindowRead i) s = .next t ∧
      Answered i .fail (List.replicate n (s.queue a.queue).config.emptyPattern) s t ∧
      t = ({ s.port t with
               takeTable := if a.closing n then s.takeTable.set e none else s.takeTable } : State).notify ∧
      (a.closing n = true →
        (∀ (e' : EntryId) b', s.takeTable[e'] = some b' → b'.init = i → b'.queue = a.queue → e' = e) →
        t.takeBinding i a.queue = none)

/-- CLOSING_READ_ACK without error: the cell leaves the committed list and its binding is freed; unpinned it joins the Free
List and the room is offered; pinned it stays TAKEN outside the list. That its response stands before those of the held
requests that the step answers is the model's choice (log 28). -/
def Obligations.ClosingReadRetires : Prop :=
  ∀ (s : State) (x : CellAccess) (r : Request) (a : QueueAccess) (beats : List MemBeat) (e : EntryId),
    CellAcknowledges s x r a beats → r.body.isWrite = false → x.use = .take true →
    beats.any MemBeat.error = false → s.takeEntry x.init x.queue = some e →
    ∃ u, exec (.closingReadAck beats) s = .next
        (tryFlushOwner (s.cell x.cell).owner (if (s.cell x.cell).pins = 0 then offerRoom u else u)).notify ∧
      Answered x.init .ok (beats.map MemBeat.data) s u ∧
      u = { (retireHead s).port u with
              takeTable := s.takeTable.set e none,
              queues := s.queues.set x.queue
                { s.queue x.queue with committed := (s.queue x.queue).committed.erase x.cell },
              cells := s.cells.set x.cell
                (if (s.cell x.cell).pins = 0 then Cell.freed
                 else { s.cell x.cell with inFlight := (s.cell x.cell).inFlight - 1 }),
              freeList := if (s.cell x.cell).pins = 0 then s.freeList ++ [x.cell] else s.freeList }

/-- PEEK_READ pins the oldest available cell and reads it, or is answered with the empty pattern; the access it issues keeps
the queue's empty pattern of that moment. PEEK_ACK releases the pin and answers with the data, or FAULT (MEMORY) with the kept
pattern, and the last pin of a retired cell puts it on the Free List. The kept pattern is the spec's: "The empty pattern
returned by any read in this chapter is the empty pattern of the addressed queue as it stands when the QE takes the read" (R50,
section 3.1, of the chapter of the peek window). That the MEMORY record of an erring peek comes before the NO_BINDING records
of puts that the room, or a flush it completes, is offered to is the model's choice (log 27), and so is that its response
stands before those of these puts (log 28). -/
def Obligations.PeekReads : Prop :=
  (∀ (s : State) (i : InitId) (r : Request) (a : QueueAccess), WindowTurn .peek s i r a → r.body.isWrite = false →
    (s.queue a.queue).state = .rest .enabled →
    (∀ c, s.oldest a.queue = some c →
      exec (.peekRead i) s = .next
        (handOver
          { s.cellWord i r a a.queue c .peek with
              owner := .cell
                { init := i, cell := c, queue := a.queue, use := .peek,
                  pattern := (s.queue a.queue).config.emptyPattern } }
          { s with
              taken := s.taken.set i true,
              cells := s.cells.set c { s.cell c with pins := (s.cell c).pins + 1 } }).notify) ∧
    (s.oldest a.queue = none →
      ∃ t, exec (.peekRead i) s = .next t ∧ t = (s.port t).notify ∧
        Answered i .ok (r.body.fill (s.queue a.queue).config.emptyPattern) s t)) ∧
  (∀ (s : State) (x : CellAccess) (r : Request) (a : QueueAccess) (beats : List MemBeat),
    CellAcknowledges s x r a beats → r.body.isWrite = false → x.use = .peek →
    let error := beats.any MemBeat.error
    ∃ u v w, exec (.peekAck beats) s = .next (tryFlushOwner (s.cell x.cell).owner w).notify ∧
      (LastPin s x.cell → w = offerRoom u) ∧ (¬ LastPin s x.cell → w = u) ∧
      Answered x.init (if error then .fault else .ok)
        (if error then r.body.fill x.pattern else beats.map MemBeat.data) s u ∧
      u = (if error then
          v.appendRecord (s.faultRecord .memory x.init r.addr (some a.aperture) (some x.queue)) else v) ∧
      (LastPin s x.cell →
        v = { (retireHead s).port u with
                cells := s.cells.set x.cell Cell.freed, freeList := s.freeList ++ [x.cell] }) ∧
      (¬ LastPin s x.cell →
        v = { (retireHead s).port u with
                cells := s.cells.set x.cell { s.cell x.cell with pins := (s.cell x.cell).pins - 1 } }))

/-! ### The control page -/

/-- A control-page write is performed beat by beat, in beat order, in one step, and answered OK in every queue state: ABANDON,
RETURN and EVENTS_WRITE command a write that covers word 2, 3 or 4, CONTROL_WORD_WRITE one that covers none of them. That a
burst over several of these words is commanded by the row of any of them is the model's choice (log 12), and so is that the OK
stands after the responses of the held requests that its beats grant or serve (log 28). -/
def Obligations.ControlWritesPerformed : Prop :=
  ∀ (s : State) (i : InitId) (r : Request) (a : QueueAccess) (bs : List WriteBeat) (c : Instr),
    s.drain = false → Current s i r (.queue a) → a.window = .control → r.body = .write bs →
    ((c = .abandon i ∧ ∃ j < bs.length, a.first + j = 2) ∨ (c = .returnWord i ∧ ∃ j < bs.length, a.first + j = 3) ∨
     (c = .eventsWrite i ∧ ∃ j < bs.length, a.first + j = 4) ∨
     (c = .controlWordWrite i ∧ ∀ j < bs.length, a.first + j ∉ [2, 3, 4])) →
    ∃ u t, u = bs.zipIdx.foldl (fun v p => controlBeat i a.queue (a.first + p.2) p.1 v) s ∧
      exec c s = .next t ∧ Answered i .ok [] u t ∧ t = (u.port t).notify

/-- What a written control word does: ABANDON frees the put binding keyed to the initiator and the queue, and the cell of an
ACTIVE one joins the Free List; RETURN frees the take binding, and the cell of an ACTIVE one becomes QUEUED in its place;
EVENTS clears each sticky flag written as 1 when the strobe of its byte is set; every other word has no effect. -/
def Obligations.ControlWordEffects : Prop :=
  ∀ (s : State) (i : InitId) (q : QueueId) (wb : WriteBeat),
    (s.putBinding i q = none → controlBeat i q 2 wb s = s) ∧
    (∀ e b, s.putBinding i q = some (e, b) →
      ((b.state = .phantom ∨ b.state = .voided) →
        controlBeat i q 2 wb s = { s with putTable := s.putTable.set e none }) ∧
      (∀ c, b.state = .active c →
        controlBeat i q 2 wb s = offerRoom
          { s with
              cells := s.cells.set c Cell.freed, freeList := s.freeList ++ [c], putTable := s.putTable.set e none,
              queues := s.queues.set b.target
                { s.queue b.target with openCount := (s.queue b.target).openCount - 1 } })) ∧
    (s.takeBinding i q = none → controlBeat i q 3 wb s = s) ∧
    (∀ e b, s.takeBinding i q = some (e, b) →
      (b.state = .voided → controlBeat i q 3 wb s = { s with takeTable := s.takeTable.set e none }) ∧
      (∀ c, b.state = .active c →
        controlBeat i q 3 wb s = serveTakes q
          { s with
              cells := s.cells.set c { s.cell c with state := .queued }, takeTable := s.takeTable.set e none })) ∧
    (controlBeat i q 4 wb s =
      { s with
          flags := if wb.strobes.getLsbD 0 then
              s.flags.set q
                { lost := s.flags[q].lost && !wb.data.getLsbD 0,
                  underrun := s.flags[q].underrun && !wb.data.getLsbD 1,
                  watermark := s.flags[q].watermark && !wb.data.getLsbD 2,
                  expired := s.flags[q].expired && !wb.data.getLsbD 3,
                  diverted := s.flags[q].diverted && !wb.data.getLsbD 4,
                  ready := s.flags[q].ready }
            else s.flags }) ∧
    (∀ w, w ≠ 2 → w ≠ 3 → w ≠ 4 → controlBeat i q w wb s = s)

/-- CONTROL_PAGE_READ returns each word of its beats at one moment and changes nothing; the words hold their items in the
places of section 13.5. -/
def Obligations.ControlPageRead : Prop :=
  (∀ (s : State) (i : InitId) (r : Request) (a : QueueAccess) (n : Nat), s.drain = false → Current s i r (.queue a) →
    a.window = .control → r.body = .read n →
    ∃ t, exec (.controlPageRead i) s = .next t ∧ t = s.port t ∧
      Answered i .ok ((List.range n).map (fun j => s.controlWord i a.queue (a.first + j))) s t) ∧
  (∀ (s : State) (i : InitId) (q : QueueId),
    (s.available q < 2048 → s.takenCount q < 32 → (s.queue q).openCount < 32 →
      (s.controlWord i q 0).toNat =
        (match (s.queue q).state with
          | .rest .disabled => 0
          | .rest .enabled => 1
          | .flushing _ => 2) + (if 0 < s.available q then 2 ^ 7 else 0) + 2 ^ 16 * s.available q +
        2 ^ 32 * s.takenCount q + 2 ^ 40 * (s.queue q).openCount) ∧
    (s.takeBinding i q = none → s.controlWord i q 1 = 0#64) ∧
    (∀ e b, s.takeBinding i q = some (e, b) → b.state = .voided → s.controlWord i q 1 = 3#64) ∧
    (∀ e b c seq, s.takeBinding i q = some (e, b) → b.state = .active c → (s.cell c).sequence = some seq →
      (s.controlWord i q 1).toNat =
        1 + (if (s.cell c).complete then 4 else 0) +
        (match (s.cell c).origin with
          | none => 0
          | some o => 8 + 2 ^ 8 * o.val) + 2 ^ 16 * seq.toNat) ∧
    (s.controlWord i q 4).toNat = s.flags[q].lost.toNat + 2 * s.flags[q].underrun.toNat +
      4 * s.flags[q].watermark.toNat + 8 * s.flags[q].expired.toNat + 16 * s.flags[q].diverted.toNat ∧
    (s.controlWord i q 5).toNat = (s.queue q).lost.toNat + 2 ^ 16 * (s.queue q).underrun.toNat ∧
    (∀ w, w = 2 ∨ w = 3 ∨ 6 ≤ w → s.controlWord i q w = 0#64))

/-! ### Merge apertures and the memory port -/

/-- The new value of a merged word, bit by bit, and the comparison of COND (R135). -/
def Obligations.MergeValues : Prop :=
  (∀ (p : Word) (strobes : Byte) (n : Nat),
    (effectiveMask p strobes).getLsbD n = (p.getLsbD n && strobes.getLsbD (n / 8))) ∧
  (∀ (o d m : Word) (n : Nat), n < 64 →
    (mergeValue .set o d m).getLsbD n = (o.getLsbD n || (d.getLsbD n && m.getLsbD n)) ∧
    (mergeValue .clear o d m).getLsbD n = (o.getLsbD n && !(d.getLsbD n && m.getLsbD n)) ∧
    (mergeValue .flip o d m).getLsbD n = (o.getLsbD n != (d.getLsbD n && m.getLsbD n)) ∧
    (mergeValue .add o d m).getLsbD n = (if m.getLsbD n then (o + d).getLsbD n else o.getLsbD n) ∧
    (mergeValue .cond o d m).getLsbD n = (if m.getLsbD n then d.getLsbD n else o.getLsbD n)) ∧
  (∀ (l : Latch) (word : Addr) (o : Word),
    condHolds l word o = true ↔ l.valid = true ∧ l.addr = word ∧ l.value = o)

/-- MERGE_READ hands one memory read of the translated words over, without a lock; MERGE_READ_ACK answers it and loads the
initiator's latch with the last beat, or answers FAULT (MEMORY) with zero and leaves the latch. -/
def Obligations.MergeReads : Prop :=
  (∀ (s : State) (i : InitId) (r : Request) (op : MergeOp) (mask : Word) (target : Addr) (k : ApId),
    Current s i r (.merge op mask target k) → r.body.isWrite = false →
    exec (.mergeRead i) s = .next
      (handOver { addr := target, body := r.body, owner := .mergeRead i, fate := .live }
        { s with taken := s.taken.set i true })) ∧
  (∀ (s : State) (m : MemReq) (beats : List MemBeat) (last : MemBeat) (i : InitId) (r : Request) (op : MergeOp)
      (mask : Word) (target : Addr) (k : ApId),
    Acknowledges s m beats → m.owner = .mergeRead i → Performing s i r (.merge op mask target k) →
    r.body.isWrite = false → beats.getLast? = some last →
    (beats.any MemBeat.error = false →
      ∃ t, exec (.mergeReadAck beats) s = .next t ∧ Answered i .ok (beats.map MemBeat.data) s t ∧
        t = ({ (retireHead s).port t with
                 latches := s.latches.set i
                   { valid := true, addr := target + BitVec.ofNat 40 (8 * (beats.length - 1)), value := last.data } } :
              State).notify) ∧
    (beats.any MemBeat.error = true →
      ∃ t, exec (.mergeReadAck beats) s = .next t ∧ Answered i .fault (r.body.fill 0#64) s t ∧
        t = (((retireHead s).port t).appendRecord (s.faultRecord .memory i r.addr (some k) none)).notify))

/-- MERGE_WRITE begins with beat 0, or refuses an ADD with a strobe clear; MERGE_BEAT_LOCK takes a lock or joins the waiting
list; MERGE_BEAT_READ_ISSUE issues the read once nothing handed over before touches the word. The command that brings a beat
to the lock set, and the reading of stage 2, are the model's (logs 22 and 24), and so is that an invalid latch keeps its
address and value (log 15). -/
def Obligations.MergeBeatBegins : Prop :=
  (∀ (s : State) (i : InitId) (r : Request) (op : MergeOp) (mask : Word) (target : Addr) (k : ApId),
    Current s i r (.merge op mask target k) → r.body.isWrite = true →
    ((op ≠ .add ∨ ∀ b ∈ r.body.writeBeats, b.strobes = 0xFF#8) →
      exec (.mergeWrite i) s = .next
        { s with taken := s.taken.set i true, merges := s.merges.set i (some { beat := 0, stage := .arriving }) }) ∧
    (op = .add → (∃ b ∈ r.body.writeBeats, b.strobes ≠ 0xFF#8) →
      ∃ t, exec (.mergeWrite i) s = .next t ∧ Answered i .fault [] s t ∧
        t = ({ (s.port t).appendRecord (s.faultRecord .addPartial i r.addr (some k) none) with
                 latches := s.latches.set i { s.latches[i] with valid := false } } : State).notify)) ∧
  (∀ (s : State) (i : InitId) (m : MergeAccess) (j : Nat), MergeAt s i m j .arriving →
    let word := m.target + BitVec.ofNat 40 (8 * j)
    (mayLock s.locks s.waiting word = true →
      exec (.mergeBeatLock i) s = .next
        { s with locks := s.locks ++ [{ word := word, init := i, stage := .reading }],
                 merges := s.merges.set i (some { beat := j, stage := .locked }) }) ∧
    (mayLock s.locks s.waiting word = false →
      exec (.mergeBeatLock i) s = .next
        { s with waiting := s.waiting ++ [.beat i word],
                 merges := s.merges.set i (some { beat := j, stage := .waiting }) })) ∧
  (∀ (s : State) (i : InitId) (m : MergeAccess) (j : Nat), MergeAt s i m j .locked →
    let word := m.target + BitVec.ofNat 40 (8 * j)
    ((∀ x ∈ s.issueQ ++ s.outstanding, shareWord x.addr x.body.count word 1 = false) →
      exec (.mergeBeatReadIssue i) s = .next
        (issue { addr := word, body := .read 1, owner := .beatRead i, fate := .live }
          { s with merges := s.merges.set i (some { beat := j, stage := .reading }) })) ∧
    ((∃ x ∈ s.issueQ ++ s.outstanding, shareWord x.addr x.body.count word 1 = true) →
      exec (.mergeBeatReadIssue i) s = .next s))

/-- MERGE_BEAT_READ_ACK writes the new value, or ends the request with FAIL when a COND comparison fails, or with FAULT
(MEMORY), the latch kept only for beat 0. MERGE_BEAT_WRITE_ACK releases the lock and settles the waiters; then the next beat
begins, or the request is answered OK after its last beat or FAULT (MEMORY) at an error, with the latch invalidated. Beat j of
the request carries its own data and strobes (R134, R135). That an invalid latch keeps its address and value is the model's
choice (log 15). -/
def Obligations.MergeBeatEnds : Prop :=
  (∀ (bs : List WriteBeat) (j : Nat) (h : j < bs.length), (Body.write bs).beat j = bs[j]) ∧
  (∀ (s : State) (x : MemReq) (b : MemBeat) (i : InitId) (m : MergeAccess) (j : Nat),
    Acknowledges s x [b] → x.owner = .beatRead i → MergeAt s i m j .reading → m.req.body.isWrite = true →
    let word := m.target + BitVec.ofNat 40 (8 * j)
    let beat := m.req.body.beat j
    let ended := releaseLock i { retireHead s with merges := s.merges.set i none }
    let cleared := s.latches.set i { s.latches[i] with valid := false }
    (b.error = false → (m.op ≠ .cond ∨ condHolds s.latches[i] word b.data = true) →
      exec (.mergeBeatReadAck [b]) s = .next
        (issue
          { addr := word, owner := .beatWrite i, fate := .live,
            body := .write [{ data := mergeValue m.op b.data beat.data (effectiveMask m.mask beat.strobes),
                              strobes := 0xFF#8 }] }
          { retireHead s with
              merges := s.merges.set i (some { beat := j, stage := .writing }),
              locks := s.locks.map (fun l => if l.init = i then { l with stage := .writing } else l) }).notify) ∧
    (b.error = false → m.op = .cond → condHolds s.latches[i] word b.data = false →
      ∃ t, exec (.mergeBeatReadAck [b]) s = .next t ∧ Answered i .fail [] s t ∧
        t = ({ ended.port t with latches := cleared } : State).notify) ∧
    (b.error = true →
      ∃ t, exec (.mergeBeatReadAck [b]) s = .next t ∧ Answered i .fault [] s t ∧
        t = ({ (ended.port t).appendRecord (s.faultRecord .memory i m.req.addr (some m.aperture) none) with
                 latches := if j = 0 then s.latches else cleared } : State).notify)) ∧
  (∀ (s : State) (x : MemReq) (beats : List MemBeat) (i : InitId) (m : MergeAccess) (j : Nat),
    Acknowledges s x beats → x.owner = .beatWrite i → MergeAt s i m j .writing → m.req.body.isWrite = true →
    let ended := releaseLock i { retireHead s with merges := s.merges.set i none }
    let cleared := s.latches.set i { s.latches[i] with valid := false }
    (beats.any MemBeat.error = false → j + 1 < m.req.body.count →
      exec (.mergeBeatWriteAck beats) s = .next
        { ended with merges := ended.merges.set i (some { beat := j + 1, stage := .arriving }) }) ∧
    (beats.any MemBeat.error = false → m.req.body.count ≤ j + 1 →
      ∃ t, exec (.mergeBeatWriteAck beats) s = .next t ∧ Answered i .ok [] s t ∧
        t = ({ ended.port t with latches := cleared } : State).notify) ∧
    (beats.any MemBeat.error = true →
      ∃ t, exec (.mergeBeatWriteAck beats) s = .next t ∧ Answered i .fault [] s t ∧
        t = ({ (ended.port t).appendRecord (s.faultRecord .memory i m.req.addr (some m.aperture) none) with
                 latches := cleared } : State).notify))

/-- The path of a memory request. Handed over, it joins the tail of the waiting list when its range meets a locked word or a
word of an earlier waiter, and is issued otherwise (R138, R163): it joins the tail of the issue queue, and the MP presents.
An acknowledgement removes the head of the outstanding list, and the MP presents (R163, R165). MEMORY_PRESENT presents the
earliest issued request that conflicts with nothing outstanding and nothing issued before it, and nothing while 16 are
outstanding. Two requests conflict when they share a byte of the address space and one of them is a WRITE (R164); two ranges
share a word when a byte of the one and a byte of the other lie in one aligned word (R138, for unaligned ranges log 21). A beat
may take a lock when an entry is free and nothing blocks its word (R137). LOCK_WAITER_RELEASE goes through the waiting list in
its order, and so does the release of a lock: a beat that passes takes its lock, another access that passes is issued, one that
fails keeps its place (R139); it leaves no waiting access that passes its test, and changes nothing where none passes. As
commands of their own MEMORY_PRESENT and LOCK_WAITER_RELEASE are the steps the model makes in the steps of their causes (logs 5
and 6). -/
def Obligations.PresentedAndReleased : Prop :=
  (∀ r e : MemReq, 1 ≤ r.body.count → 1 ≤ e.body.count →
    (r.conflicts e = true ↔ (r.body.isWrite = true ∨ e.body.isWrite = true) ∧
      ∃ x < 8 * r.body.count, ∃ y < 8 * e.body.count, r.addr + BitVec.ofNat 40 x = e.addr + BitVec.ofNat 40 y)) ∧
  (∀ (a b : Addr) (n m : Nat), 1 ≤ n → 1 ≤ m →
    (shareWord a n b m = true ↔
      ∃ x < 8 * n, ∃ y < 8 * m, (a + BitVec.ofNat 40 x) >>> 3 = (b + BitVec.ofNat 40 y) >>> 3)) ∧
  (∀ (s : State) (i : InitId),
    releaseLock i s = settleFrom [] s.waiting { s with locks := s.locks.filter (fun l => decide (l.init ≠ i)) }) ∧
  (∀ s : State,
    (∀ before m after, s.issueQ = before ++ m :: after → s.outstanding.length < 16 →
      (∀ e ∈ s.outstanding ++ before, m.conflicts e = false) →
      (∀ b1 x b2, before = b1 ++ x :: b2 → ∃ e ∈ s.outstanding ++ b1, x.conflicts e = true) →
      exec .memoryPresent s = .next { s with issueQ := before ++ after, outstanding := s.outstanding ++ [m] }) ∧
    (16 ≤ s.outstanding.length → exec .memoryPresent s = .next s) ∧
    ((∀ before x after, s.issueQ = before ++ x :: after → ∃ e ∈ s.outstanding ++ before, x.conflicts e = true) →
      exec .memoryPresent s = .next s)) ∧
  (∀ (s : State) (m : MemReq),
    (blocked s.locks s.waiting m.addr m.count = true → handOver m s = { s with waiting := s.waiting ++ [.access m] }) ∧
    (blocked s.locks s.waiting m.addr m.count = false → handOver m s = issue m s) ∧
    exec .memoryPresent { s with issueQ := s.issueQ ++ [m] } = .next (issue m s) ∧
    exec .memoryPresent { s with outstanding := s.outstanding.tail } = .next (retireHead s)) ∧
  (∀ (locks : List Lock) (earlier : List Waiter) (a : Addr) (n : Nat),
    (blocked locks earlier a n = true ↔
      (∃ l ∈ locks, shareWord a n l.word 1 = true) ∨ (∃ m, .access m ∈ earlier ∧ shareWord m.addr m.count a n = true) ∨
      ∃ i word, .beat i word ∈ earlier ∧ shareWord word 1 a n = true) ∧
    (mayLock locks earlier a = true ↔ locks.length < 4 ∧ blocked locks earlier a 1 = false)) ∧
  (∀ s : State,
    exec .lockWaiterRelease s = .next (settleFrom [] s.waiting s) ∧ Settled (settleFrom [] s.waiting s) ∧
    (Settled s → exec .lockWaiterRelease s = .next s)) ∧
  (∀ (s : State) (kept rest : List Waiter),
    settleFrom kept [] s = { s with waiting := kept } ∧
    (∀ m, (blocked s.locks kept m.addr m.count = true →
        settleFrom kept (.access m :: rest) s = settleFrom (kept ++ [.access m]) rest s) ∧
      (blocked s.locks kept m.addr m.count = false →
        settleFrom kept (.access m :: rest) s = settleFrom kept rest (issue m s))) ∧
    (∀ i word, (mayLock s.locks kept word = false →
        settleFrom kept (.beat i word :: rest) s = settleFrom (kept ++ [.beat i word]) rest s) ∧
      (mayLock s.locks kept word = true →
        settleFrom kept (.beat i word :: rest) s = settleFrom kept rest
          { s with locks := s.locks ++ [{ word := word, init := i, stage := .reading }],
                   merges := s.merges.set i (s.merges[i].map (fun b => { b with stage := .locked })) })))

/-! ### Waits -/

/-- HELD_TAKE_EXPIRY answers a due held take with the empty pattern, counting underrun and expired; HELD_PUT_EXPIRY drops a
due held put, counting lost and expired, or answers NO_BINDING where the Put Binding Table is full. As commands of their own
they are the steps that TICK_ADVANCE makes at the advance that reaches the deadline (logs 5 and 7). -/
def Obligations.HeldRequestsExpire : Prop :=
  (∀ (s : State) (kind : HeldKind) (i : InitId) (k : SlotId) (x : Slot), s.dueHeld kind i = some (k, x) ↔
    ∃ before after, s.arrival = before ++ k :: after ∧ s.slots[k] = some x ∧ x.kind = kind ∧ x.init = i ∧
      x.deadline = s.tickCount ∧
      ∀ j ∈ before, ∀ y, s.slots[j] = some y → y.kind = kind → y.init = i → y.deadline ≠ s.tickCount) ∧
  (∀ (s : State) (i : InitId) (k : SlotId) (x : Slot), s.dueHeld .take i = some (k, x) →
    ∃ t, exec (.heldTakeExpiry i) s = .next t ∧
      Answered i .ok (x.req.body.fill (s.queue x.queue).config.emptyPattern) s t ∧
      t = ({ s.port t with
               slots := s.slots.set k none, arrival := s.arrival.filter (fun j => decide (j ≠ k)),
               queues := s.queues.set x.queue
                 { s.queue x.queue with underrun := satInc (s.queue x.queue).underrun,
                                        expired := satInc (s.queue x.queue).expired },
               flags := s.flags.set x.queue { s.flags[x.queue] with underrun := true, expired := true } } :
            State).notify) ∧
  (∀ (s : State) (i : InitId) (k : SlotId) (x : Slot), s.dueHeld .put i = some (k, x) → x.access.queue = x.queue →
    (∀ e, s.freePut = some e →
      ∃ t, exec (.heldPutExpiry i) s = .next t ∧
        Answered i (if x.access.closing x.req.body.count && (s.queue x.queue).config.report then .fail else .ok) [] s t ∧
        t = ({ s.port t with
                 slots := s.slots.set k none, arrival := s.arrival.filter (fun j => decide (j ≠ k)),
                 queues := s.queues.set x.queue
                   { s.queue x.queue with lost := satInc (s.queue x.queue).lost,
                                          expired := satInc (s.queue x.queue).expired },
                 flags := s.flags.set x.queue { s.flags[x.queue] with lost := true, expired := true },
                 putTable := if x.access.closing x.req.body.count then s.putTable
                   else s.putTable.set e
                     (some { init := i, origin := x.queue, target := x.queue, state := .phantom }) } :
              State).notify) ∧
    (s.freePut = none →
      ∃ t, exec (.heldPutExpiry i) s = .next t ∧ Answered i .fault [] s t ∧
        t = (({ s.port t with
                  slots := s.slots.set k none, arrival := s.arrival.filter (fun j => decide (j ≠ k)),
                  queues := s.queues.set x.queue
                    { s.queue x.queue with expired := satInc (s.queue x.queue).expired },
                  flags := s.flags.set x.queue { s.flags[x.queue] with expired := true } } : State).appendRecord
              (s.faultRecord .noBinding i x.req.addr (some x.access.aperture) (some x.queue))).notify))

/-- HELD_PUT_GRANT gives the Free List head to the earliest held put whose queue is not full, and HELD_TAKE_SERVICE binds the
oldest available cell to the queue's earliest held take; each is answered NO_BINDING where its table is full. An offer of room
is these grants one after the other until no candidate is left, and none under the reset drain; an offer of availability is
these services until the queue has no held take or no available cell (R92, R95). After an offer of room no held put waits on a
queue that is not full, and after an offer of availability no held take waits on the queue while it has an available cell. So
every step keeps, with the accounting that AccountingKept says every step keeps, each held request on an ENABLED queue that is
full, for a put, or without an available cell, for a take (R91). As commands of their own they are the steps the model makes in
the steps of their causes (log 5). -/
def Obligations.HeldRequestsGranted : Prop :=
  (∀ s t : State, Accounted s → HeldWait s → step s = .next t → HeldWait t) ∧
  (∀ s : State, (s.drain = true ∨ grantee s = none → offerRoom s = s ∧ exec .heldPutGrant s = .next s) ∧
    (∀ k x, s.drain = false → grantee s = some (k, x) →
      offerRoom s = offerRoom (grant k x s) ∧ exec .heldPutGrant s = .next (grant k x s).notify)) ∧
  (∀ (s : State) (q : QueueId),
    (s.oldest q = none ∨ (∀ k ∈ s.arrival, ∀ x, s.slots[k] = some x → x.kind = .take → x.queue ≠ q) →
      serveTakes q s = s ∧ exec (.heldTakeService q) s = .next s) ∧
    (∀ before after k x c, s.arrival = before ++ k :: after → s.slots[k] = some x → x.kind = .take → x.queue = q →
      (∀ j ∈ before, ∀ y, s.slots[j] = some y → y.kind = .take → y.queue ≠ q) → s.oldest q = some c →
      serveTakes q s = serveTakes q (serve k x c s) ∧
        exec (.heldTakeService q) s = .next (serve k x c s).notify)) ∧
  (∀ (s : State) (k : SlotId) (x : Slot), grantee s = some (k, x) ↔
    ∃ before after, s.arrival = before ++ k :: after ∧ s.slots[k] = some x ∧ x.kind = .put ∧ s.full x.queue = false ∧
      ∀ j ∈ before, ∀ y, s.slots[j] = some y → y.kind = .put → s.full y.queue = true) ∧
  (∀ (s : State) (k : SlotId) (x : Slot), s.drain = false → grantee s = some (k, x) →
    (∀ (e : EntryId) (c : Nat) (rest : List Nat), x.access.queue = x.queue → s.freePut = some e → s.freeList = c :: rest →
      exec .heldPutGrant s = .next
        (handOver (s.cellWord x.init x.req x.access x.queue c (.compose (x.access.closing x.req.body.count)))
          { s with
              slots := s.slots.set k none, arrival := s.arrival.filter (fun j => decide (j ≠ k)), freeList := rest,
              cells := s.cells.set c
                { state := .opened, owner := some x.queue, origin := none, sequence := none,
                  written := some (writtenBits x.access.first x.req.body.writeBeats), complete := false,
                  damaged := false, pins := 0, inFlight := 1 },
              queues := s.queues.set x.queue { s.queue x.queue with openCount := (s.queue x.queue).openCount + 1 },
              putTable := s.putTable.set e
                (some { init := x.init, origin := x.queue, target := x.queue, state := .active c }) }).notify) ∧
    (s.freePut = none →
      ∃ t, exec .heldPutGrant s = .next t ∧ Answered x.init .fault [] s t ∧
        t = ((State.appendRecord ·
            (s.faultRecord .noBinding x.init x.req.addr (some x.access.aperture) (some x.queue)))
          { s.port t with
              slots := s.slots.set k none, arrival := s.arrival.filter (fun j => decide (j ≠ k)) }).notify)) ∧
  (∀ (s : State) (q : QueueId) (before after : List SlotId) (k : SlotId) (x : Slot) (c : Nat),
    s.arrival = before ++ k :: after → s.slots[k] = some x → x.kind = .take → x.queue = q → x.access.queue = q →
    (∀ j ∈ before, ∀ y, s.slots[j] = some y → y.kind = .take → y.queue ≠ q) → s.oldest q = some c →
    (∀ e : EntryId, s.freeTake = some e →
      exec (.heldTakeService q) s = .next
        (handOver (s.cellWord x.init x.req x.access q c (.take (x.access.closing x.req.body.count)))
          { s with
              slots := s.slots.set k none, arrival := s.arrival.filter (fun j => decide (j ≠ k)),
              cells := s.cells.set c { s.cell c with state := .taken, inFlight := (s.cell c).inFlight + 1 },
              takeTable := s.takeTable.set e (some { init := x.init, queue := q, state := .active c }) }).notify) ∧
    (s.freeTake = none →
      ∃ t, exec (.heldTakeService q) s = .next t ∧
        Answered x.init .fault (x.req.body.fill (s.queue q).config.emptyPattern) s t ∧
        t = ((State.appendRecord ·
            (s.faultRecord .noBinding x.init x.req.addr (some x.access.aperture) (some q)))
          { s.port t with
              slots := s.slots.set k none, arrival := s.arrival.filter (fun j => decide (j ≠ k)) }).notify)) ∧
  (∀ s : State, s.drain = false → ∀ k ∈ (offerRoom s).arrival, ∀ x, (offerRoom s).slots[k] = some x → x.kind = .put →
    (offerRoom s).full x.queue = true) ∧
  (∀ (s : State) (q : QueueId), (serveTakes q s).oldest q = none ∨
    ∀ k ∈ (serveTakes q s).arrival, ∀ x, (serveTakes q s).slots[k] = some x → x.kind = .take → x.queue ≠ q)

/-! ### Resets -/

/-- SYS_RESET_ASSERT. It clears what the initiators were doing: the channels, the wait slots, the MU's locks, waiting list,
merges and latches, both binding tables; the OPEN cell of each ACTIVE put binding becomes FREE and joins the Free List tail in
ascending order of the entries; the TAKEN cell of each ACTIVE take binding becomes QUEUED in its place; memory requests are
marked discarded (R25, R101, R143, R166). Every other cell record, list, count and field stands. Then each QE access that
waited on the MU lowers the count it raised, by 1, and the last pin of a retired cell puts it on the Free List (R25, R166).
Where no acknowledgement is then awaited the QE's handling ends in the step, as RESET_DRAIN_END ends it (R25, R110). An in-flight
count that stands on a freed cell, an invalid latch's address and value, the dropping after the tables, and the end in this
step are the model's reading or choice (logs 14, 15, 19 and 8). -/
def Obligations.SysResetClearsAndKeeps : Prop :=
  (∀ s : State, s.sysReset = false → s.pwrReset = false →
    ∃ t, exec .sysResetAssert s = .next t.notify ∧ DrainSettled (s.waiting.foldl dropWaiter
      { s with
          sysReset := true, drain := true, channels := Vector.replicate 8 [], taken := Vector.replicate 8 false,
          slots := Vector.replicate 8 none, arrival := [], locks := [], waiting := [], merges := Vector.replicate 8 none,
          latches := s.latches.map (fun l => { l with valid := false }),
          issueQ := s.issueQ.map (fun m => if m.fate = .live then { m with fate := .discarded } else m),
          outstanding := s.outstanding.map (fun m => if m.fate = .live then { m with fate := .discarded } else m),
          putTable := Vector.replicate 16 none, takeTable := Vector.replicate 16 none,
          freeList := s.freeList ++ s.composed,
          cells := s.cells.mapIdx (fun c x =>
            let y := if c ∈ s.composed then { Cell.freed with inFlight := x.inFlight } else x
            if c ∈ s.bound then { y with state := .queued } else y),
          queues := Vector.ofFn (fun q : QueueId =>
            { s.queue q with openCount := (s.queue q).openCount - s.composing q }) }) t) ∧
  (∀ s : State, Accounted s → ∀ q, (s.queue q).openCount - s.composing q = 0) ∧
  (∀ (s : State) (m : MemReq) (x : CellAccess), m.owner = .cell x →
    (x.use ≠ .peek → dropWaiter s (.access m) =
      { s with cells := s.cells.set x.cell { s.cell x.cell with inFlight := (s.cell x.cell).inFlight - 1 } }) ∧
    (x.use = .peek → LastPin s x.cell → dropWaiter s (.access m) =
      { s with cells := s.cells.set x.cell Cell.freed, freeList := s.freeList ++ [x.cell] }) ∧
    (x.use = .peek → ¬ LastPin s x.cell → dropWaiter s (.access m) =
      { s with cells := s.cells.set x.cell { s.cell x.cell with pins := (s.cell x.cell).pins - 1 } })) ∧
  (∀ (s : State) (m : MemReq), (∀ x, m.owner ≠ .cell x) → dropWaiter s (.access m) = s) ∧
  (∀ (s : State) (i : InitId) (word : Addr), dropWaiter s (.beat i word) = s)

/-- PWR_RESET_ASSERT puts everything at its power-on value but what lies outside the part; the releases; and RESET_DRAIN_END,
which completes the pending flush and clears the reset drain, where nothing is awaited. What lies outside the part (the offers,
the levels of SYS_RESET and of select, the requests at memory), its output logs and its queue of commands are the model's (logs
2, 3 and 10); as a command of its own RESET_DRAIN_END is the step the model makes in the step in which the wait ends (log 8). -/
def Obligations.PowerResetAndReleases : Prop :=
  (∀ s : State, exec .pwrResetAssert s = .next
    { State.reset with
        pwrReset := true, sysReset := s.sysReset, offers := s.offers, responses := s.responses, select := s.select,
        mdoSent := s.mdoSent, pending := s.pending,
        outstanding := s.outstanding.map (fun m => { m with fate := .dropped }) }) ∧
  (∀ s : State, s.pwrReset = true →
    exec .pwrResetRelease s = .next { s with pwrReset := false, tickElapsed := 0 }) ∧
  (∀ s : State, exec .sysResetRelease s = .next { s with sysReset := false }) ∧
  (∀ s : State, s.drain = true → DrainOver s → ∃ t, DrainSettled s t ∧ exec .resetDrainEnd s = .next t.notify) ∧
  (∀ s : State, (s.drain = false ∨ ¬ DrainOver s) → exec .resetDrainEnd s = .next s)

/-- DISCARDED_ACK drops the acknowledgement: a request PWR_RESET left outstanding, or one of another block than the QE,
changes nothing; an access of the QE lowers the count it raised, and a retired cell's last pin puts it on the Free List; and
the last that the reset drain awaits ends it, as RESET_DRAIN_END does (R25, R110; log 8). -/
def Obligations.DiscardedAcknowledged : Prop :=
  ∀ (s : State) (m : MemReq) (beats : List MemBeat), s.outstanding.head? = some m → beats.length = m.count →
    ((m.fate = .dropped ∨ (m.fate = .discarded ∧ ∀ x, m.owner ≠ .cell x)) →
      exec (.discardedAck beats) s = .next (retireHead s)) ∧
    (∀ x, m.fate = .discarded → m.owner = .cell x →
      ∃ u t, exec (.discardedAck beats) s = .next t.notify ∧ DrainSettled u t ∧
        (x.use ≠ .peek → u =
          { retireHead s with
              cells := s.cells.set x.cell { s.cell x.cell with inFlight := (s.cell x.cell).inFlight - 1 } }) ∧
        (x.use = .peek → LastPin s x.cell → u =
          { retireHead s with cells := s.cells.set x.cell Cell.freed, freeList := s.freeList ++ [x.cell] }) ∧
        (x.use = .peek → ¬ LastPin s x.cell → u =
          { retireHead s with
              cells := s.cells.set x.cell { s.cell x.cell with pins := (s.cell x.cell).pins - 1 } }))
end

