-- ==== Sys2Proof/Laws/State.lean ====
section
/-! SUPPORT. What each field of the state is after each named update: one lemma per field per update, so that no proof
unfolds a record update. -/

namespace Sys2Proof.Machine

variable (s : State)

/-! ### `State.setCell` -/

@[simp] theorem State.setCell_pwrReset (c : Nat) (x : Cell) : (s.setCell c x).pwrReset = s.pwrReset := rfl
@[simp] theorem State.setCell_sysReset (c : Nat) (x : Cell) : (s.setCell c x).sysReset = s.sysReset := rfl
@[simp] theorem State.setCell_offers (c : Nat) (x : Cell) : (s.setCell c x).offers = s.offers := rfl
@[simp] theorem State.setCell_channels (c : Nat) (x : Cell) : (s.setCell c x).channels = s.channels := rfl
@[simp] theorem State.setCell_taken (c : Nat) (x : Cell) : (s.setCell c x).taken = s.taken := rfl
@[simp] theorem State.setCell_responses (c : Nat) (x : Cell) : (s.setCell c x).responses = s.responses := rfl
@[simp] theorem State.setCell_steering (c : Nat) (x : Cell) : (s.setCell c x).steering = s.steering := rfl
@[simp] theorem State.setCell_apertures (c : Nat) (x : Cell) : (s.setCell c x).apertures = s.apertures := rfl
@[simp] theorem State.setCell_arenaBase (c : Nat) (x : Cell) : (s.setCell c x).arenaBase = s.arenaBase := rfl
@[simp] theorem State.setCell_poolSize (c : Nat) (x : Cell) : (s.setCell c x).poolSize = s.poolSize := rfl
@[simp] theorem State.setCell_guardOn (c : Nat) (x : Cell) : (s.setCell c x).guardOn = s.guardOn := rfl
@[simp] theorem State.setCell_cells (c : Nat) (x : Cell) : (s.setCell c x).cells = s.cells.set c x := rfl
@[simp] theorem State.setCell_freeList (c : Nat) (x : Cell) : (s.setCell c x).freeList = s.freeList := rfl
@[simp] theorem State.setCell_queues (c : Nat) (x : Cell) : (s.setCell c x).queues = s.queues := rfl
@[simp] theorem State.setCell_putTable (c : Nat) (x : Cell) : (s.setCell c x).putTable = s.putTable := rfl
@[simp] theorem State.setCell_takeTable (c : Nat) (x : Cell) : (s.setCell c x).takeTable = s.takeTable := rfl
@[simp] theorem State.setCell_drain (c : Nat) (x : Cell) : (s.setCell c x).drain = s.drain := rfl
@[simp] theorem State.setCell_slots (c : Nat) (x : Cell) : (s.setCell c x).slots = s.slots := rfl
@[simp] theorem State.setCell_arrival (c : Nat) (x : Cell) : (s.setCell c x).arrival = s.arrival := rfl
@[simp] theorem State.setCell_tickCount (c : Nat) (x : Cell) : (s.setCell c x).tickCount = s.tickCount := rfl
@[simp] theorem State.setCell_tickInterval (c : Nat) (x : Cell) : (s.setCell c x).tickInterval = s.tickInterval := rfl
@[simp] theorem State.setCell_tickElapsed (c : Nat) (x : Cell) : (s.setCell c x).tickElapsed = s.tickElapsed := rfl
@[simp] theorem State.setCell_locks (c : Nat) (x : Cell) : (s.setCell c x).locks = s.locks := rfl
@[simp] theorem State.setCell_waiting (c : Nat) (x : Cell) : (s.setCell c x).waiting = s.waiting := rfl
@[simp] theorem State.setCell_merges (c : Nat) (x : Cell) : (s.setCell c x).merges = s.merges := rfl
@[simp] theorem State.setCell_latches (c : Nat) (x : Cell) : (s.setCell c x).latches = s.latches := rfl
@[simp] theorem State.setCell_issueQ (c : Nat) (x : Cell) : (s.setCell c x).issueQ = s.issueQ := rfl
@[simp] theorem State.setCell_outstanding (c : Nat) (x : Cell) : (s.setCell c x).outstanding = s.outstanding := rfl
@[simp] theorem State.setCell_flags (c : Nat) (x : Cell) : (s.setCell c x).flags = s.flags := rfl
@[simp] theorem State.setCell_attnA (c : Nat) (x : Cell) : (s.setCell c x).attnA = s.attnA := rfl
@[simp] theorem State.setCell_attnB (c : Nat) (x : Cell) : (s.setCell c x).attnB = s.attnB := rfl
@[simp] theorem State.setCell_faultRouting (c : Nat) (x : Cell) : (s.setCell c x).faultRouting = s.faultRouting := rfl
@[simp] theorem State.setCell_log (c : Nat) (x : Cell) : (s.setCell c x).log = s.log := rfl
@[simp] theorem State.setCell_overflow (c : Nat) (x : Cell) : (s.setCell c x).overflow = s.overflow := rfl
@[simp] theorem State.setCell_frame (c : Nat) (x : Cell) : (s.setCell c x).frame = s.frame := rfl
@[simp] theorem State.setCell_select (c : Nat) (x : Cell) : (s.setCell c x).select = s.select := rfl
@[simp] theorem State.setCell_mdoSent (c : Nat) (x : Cell) : (s.setCell c x).mdoSent = s.mdoSent := rfl
@[simp] theorem State.setCell_pendingCmd (c : Nat) (x : Cell) : (s.setCell c x).pendingCmd = s.pendingCmd := rfl
@[simp] theorem State.setCell_pending (c : Nat) (x : Cell) : (s.setCell c x).pending = s.pending := rfl

/-! ### `State.setQueue` -/

@[simp] theorem State.setQueue_pwrReset (q : QueueId) (x : QueueCtx) : (s.setQueue q x).pwrReset = s.pwrReset := rfl
@[simp] theorem State.setQueue_sysReset (q : QueueId) (x : QueueCtx) : (s.setQueue q x).sysReset = s.sysReset := rfl
@[simp] theorem State.setQueue_offers (q : QueueId) (x : QueueCtx) : (s.setQueue q x).offers = s.offers := rfl
@[simp] theorem State.setQueue_channels (q : QueueId) (x : QueueCtx) : (s.setQueue q x).channels = s.channels := rfl
@[simp] theorem State.setQueue_taken (q : QueueId) (x : QueueCtx) : (s.setQueue q x).taken = s.taken := rfl
@[simp] theorem State.setQueue_responses (q : QueueId) (x : QueueCtx) : (s.setQueue q x).responses = s.responses := rfl
@[simp] theorem State.setQueue_steering (q : QueueId) (x : QueueCtx) : (s.setQueue q x).steering = s.steering := rfl
@[simp] theorem State.setQueue_apertures (q : QueueId) (x : QueueCtx) : (s.setQueue q x).apertures = s.apertures := rfl
@[simp] theorem State.setQueue_arenaBase (q : QueueId) (x : QueueCtx) : (s.setQueue q x).arenaBase = s.arenaBase := rfl
@[simp] theorem State.setQueue_poolSize (q : QueueId) (x : QueueCtx) : (s.setQueue q x).poolSize = s.poolSize := rfl
@[simp] theorem State.setQueue_guardOn (q : QueueId) (x : QueueCtx) : (s.setQueue q x).guardOn = s.guardOn := rfl
@[simp] theorem State.setQueue_cells (q : QueueId) (x : QueueCtx) : (s.setQueue q x).cells = s.cells := rfl
@[simp] theorem State.setQueue_freeList (q : QueueId) (x : QueueCtx) : (s.setQueue q x).freeList = s.freeList := rfl
@[simp] theorem State.setQueue_queues (q : QueueId) (x : QueueCtx) : (s.setQueue q x).queues = s.queues.set q x := rfl
@[simp] theorem State.setQueue_putTable (q : QueueId) (x : QueueCtx) : (s.setQueue q x).putTable = s.putTable := rfl
@[simp] theorem State.setQueue_takeTable (q : QueueId) (x : QueueCtx) : (s.setQueue q x).takeTable = s.takeTable := rfl
@[simp] theorem State.setQueue_drain (q : QueueId) (x : QueueCtx) : (s.setQueue q x).drain = s.drain := rfl
@[simp] theorem State.setQueue_slots (q : QueueId) (x : QueueCtx) : (s.setQueue q x).slots = s.slots := rfl
@[simp] theorem State.setQueue_arrival (q : QueueId) (x : QueueCtx) : (s.setQueue q x).arrival = s.arrival := rfl
@[simp] theorem State.setQueue_tickCount (q : QueueId) (x : QueueCtx) : (s.setQueue q x).tickCount = s.tickCount := rfl
@[simp] theorem State.setQueue_tickInterval (q : QueueId) (x : QueueCtx) :
    (s.setQueue q x).tickInterval = s.tickInterval := rfl
@[simp] theorem State.setQueue_tickElapsed (q : QueueId) (x : QueueCtx) : (s.setQueue q x).tickElapsed = s.tickElapsed := rfl
@[simp] theorem State.setQueue_locks (q : QueueId) (x : QueueCtx) : (s.setQueue q x).locks = s.locks := rfl
@[simp] theorem State.setQueue_waiting (q : QueueId) (x : QueueCtx) : (s.setQueue q x).waiting = s.waiting := rfl
@[simp] theorem State.setQueue_merges (q : QueueId) (x : QueueCtx) : (s.setQueue q x).merges = s.merges := rfl
@[simp] theorem State.setQueue_latches (q : QueueId) (x : QueueCtx) : (s.setQueue q x).latches = s.latches := rfl
@[simp] theorem State.setQueue_issueQ (q : QueueId) (x : QueueCtx) : (s.setQueue q x).issueQ = s.issueQ := rfl
@[simp] theorem State.setQueue_outstanding (q : QueueId) (x : QueueCtx) : (s.setQueue q x).outstanding = s.outstanding := rfl
@[simp] theorem State.setQueue_flags (q : QueueId) (x : QueueCtx) : (s.setQueue q x).flags = s.flags := rfl
@[simp] theorem State.setQueue_attnA (q : QueueId) (x : QueueCtx) : (s.setQueue q x).attnA = s.attnA := rfl
@[simp] theorem State.setQueue_attnB (q : QueueId) (x : QueueCtx) : (s.setQueue q x).attnB = s.attnB := rfl
@[simp] theorem State.setQueue_faultRouting (q : QueueId) (x : QueueCtx) :
    (s.setQueue q x).faultRouting = s.faultRouting := rfl
@[simp] theorem State.setQueue_log (q : QueueId) (x : QueueCtx) : (s.setQueue q x).log = s.log := rfl
@[simp] theorem State.setQueue_overflow (q : QueueId) (x : QueueCtx) : (s.setQueue q x).overflow = s.overflow := rfl
@[simp] theorem State.setQueue_frame (q : QueueId) (x : QueueCtx) : (s.setQueue q x).frame = s.frame := rfl
@[simp] theorem State.setQueue_select (q : QueueId) (x : QueueCtx) : (s.setQueue q x).select = s.select := rfl
@[simp] theorem State.setQueue_mdoSent (q : QueueId) (x : QueueCtx) : (s.setQueue q x).mdoSent = s.mdoSent := rfl
@[simp] theorem State.setQueue_pendingCmd (q : QueueId) (x : QueueCtx) : (s.setQueue q x).pendingCmd = s.pendingCmd := rfl
@[simp] theorem State.setQueue_pending (q : QueueId) (x : QueueCtx) : (s.setQueue q x).pending = s.pending := rfl

/-! ### `State.setPut` -/

@[simp] theorem State.setPut_pwrReset (e : EntryId) (b : Option PutBinding) : (s.setPut e b).pwrReset = s.pwrReset := rfl
@[simp] theorem State.setPut_sysReset (e : EntryId) (b : Option PutBinding) : (s.setPut e b).sysReset = s.sysReset := rfl
@[simp] theorem State.setPut_offers (e : EntryId) (b : Option PutBinding) : (s.setPut e b).offers = s.offers := rfl
@[simp] theorem State.setPut_channels (e : EntryId) (b : Option PutBinding) : (s.setPut e b).channels = s.channels := rfl
@[simp] theorem State.setPut_taken (e : EntryId) (b : Option PutBinding) : (s.setPut e b).taken = s.taken := rfl
@[simp] theorem State.setPut_responses (e : EntryId) (b : Option PutBinding) : (s.setPut e b).responses = s.responses := rfl
@[simp] theorem State.setPut_steering (e : EntryId) (b : Option PutBinding) : (s.setPut e b).steering = s.steering := rfl
@[simp] theorem State.setPut_apertures (e : EntryId) (b : Option PutBinding) : (s.setPut e b).apertures = s.apertures := rfl
@[simp] theorem State.setPut_arenaBase (e : EntryId) (b : Option PutBinding) : (s.setPut e b).arenaBase = s.arenaBase := rfl
@[simp] theorem State.setPut_poolSize (e : EntryId) (b : Option PutBinding) : (s.setPut e b).poolSize = s.poolSize := rfl
@[simp] theorem State.setPut_guardOn (e : EntryId) (b : Option PutBinding) : (s.setPut e b).guardOn = s.guardOn := rfl
@[simp] theorem State.setPut_cells (e : EntryId) (b : Option PutBinding) : (s.setPut e b).cells = s.cells := rfl
@[simp] theorem State.setPut_freeList (e : EntryId) (b : Option PutBinding) : (s.setPut e b).freeList = s.freeList := rfl
@[simp] theorem State.setPut_queues (e : EntryId) (b : Option PutBinding) : (s.setPut e b).queues = s.queues := rfl
@[simp] theorem State.setPut_putTable (e : EntryId) (b : Option PutBinding) :
    (s.setPut e b).putTable = s.putTable.set e b := rfl
@[simp] theorem State.setPut_takeTable (e : EntryId) (b : Option PutBinding) : (s.setPut e b).takeTable = s.takeTable := rfl
@[simp] theorem State.setPut_drain (e : EntryId) (b : Option PutBinding) : (s.setPut e b).drain = s.drain := rfl
@[simp] theorem State.setPut_slots (e : EntryId) (b : Option PutBinding) : (s.setPut e b).slots = s.slots := rfl
@[simp] theorem State.setPut_arrival (e : EntryId) (b : Option PutBinding) : (s.setPut e b).arrival = s.arrival := rfl
@[simp] theorem State.setPut_tickCount (e : EntryId) (b : Option PutBinding) : (s.setPut e b).tickCount = s.tickCount := rfl
@[simp] theorem State.setPut_tickInterval (e : EntryId) (b : Option PutBinding) :
    (s.setPut e b).tickInterval = s.tickInterval := rfl
@[simp] theorem State.setPut_tickElapsed (e : EntryId) (b : Option PutBinding) :
    (s.setPut e b).tickElapsed = s.tickElapsed := rfl
@[simp] theorem State.setPut_locks (e : EntryId) (b : Option PutBinding) : (s.setPut e b).locks = s.locks := rfl
@[simp] theorem State.setPut_waiting (e : EntryId) (b : Option PutBinding) : (s.setPut e b).waiting = s.waiting := rfl
@[simp] theorem State.setPut_merges (e : EntryId) (b : Option PutBinding) : (s.setPut e b).merges = s.merges := rfl
@[simp] theorem State.setPut_latches (e : EntryId) (b : Option PutBinding) : (s.setPut e b).latches = s.latches := rfl
@[simp] theorem State.setPut_issueQ (e : EntryId) (b : Option PutBinding) : (s.setPut e b).issueQ = s.issueQ := rfl
@[simp] theorem State.setPut_outstanding (e : EntryId) (b : Option PutBinding) :
    (s.setPut e b).outstanding = s.outstanding := rfl
@[simp] theorem State.setPut_flags (e : EntryId) (b : Option PutBinding) : (s.setPut e b).flags = s.flags := rfl
@[simp] theorem State.setPut_attnA (e : EntryId) (b : Option PutBinding) : (s.setPut e b).attnA = s.attnA := rfl
@[simp] theorem State.setPut_attnB (e : EntryId) (b : Option PutBinding) : (s.setPut e b).attnB = s.attnB := rfl
@[simp] theorem State.setPut_faultRouting (e : EntryId) (b : Option PutBinding) :
    (s.setPut e b).faultRouting = s.faultRouting := rfl
@[simp] theorem State.setPut_log (e : EntryId) (b : Option PutBinding) : (s.setPut e b).log = s.log := rfl
@[simp] theorem State.setPut_overflow (e : EntryId) (b : Option PutBinding) : (s.setPut e b).overflow = s.overflow := rfl
@[simp] theorem State.setPut_frame (e : EntryId) (b : Option PutBinding) : (s.setPut e b).frame = s.frame := rfl
@[simp] theorem State.setPut_select (e : EntryId) (b : Option PutBinding) : (s.setPut e b).select = s.select := rfl
@[simp] theorem State.setPut_mdoSent (e : EntryId) (b : Option PutBinding) : (s.setPut e b).mdoSent = s.mdoSent := rfl
@[simp] theorem State.setPut_pendingCmd (e : EntryId) (b : Option PutBinding) :
    (s.setPut e b).pendingCmd = s.pendingCmd := rfl
@[simp] theorem State.setPut_pending (e : EntryId) (b : Option PutBinding) : (s.setPut e b).pending = s.pending := rfl

/-! ### `State.setTake` -/

@[simp] theorem State.setTake_pwrReset (e : EntryId) (b : Option TakeBinding) : (s.setTake e b).pwrReset = s.pwrReset := rfl
@[simp] theorem State.setTake_sysReset (e : EntryId) (b : Option TakeBinding) : (s.setTake e b).sysReset = s.sysReset := rfl
@[simp] theorem State.setTake_offers (e : EntryId) (b : Option TakeBinding) : (s.setTake e b).offers = s.offers := rfl
@[simp] theorem State.setTake_channels (e : EntryId) (b : Option TakeBinding) : (s.setTake e b).channels = s.channels := rfl
@[simp] theorem State.setTake_taken (e : EntryId) (b : Option TakeBinding) : (s.setTake e b).taken = s.taken := rfl
@[simp] theorem State.setTake_responses (e : EntryId) (b : Option TakeBinding) :
    (s.setTake e b).responses = s.responses := rfl
@[simp] theorem State.setTake_steering (e : EntryId) (b : Option TakeBinding) : (s.setTake e b).steering = s.steering := rfl
@[simp] theorem State.setTake_apertures (e : EntryId) (b : Option TakeBinding) :
    (s.setTake e b).apertures = s.apertures := rfl
@[simp] theorem State.setTake_arenaBase (e : EntryId) (b : Option TakeBinding) :
    (s.setTake e b).arenaBase = s.arenaBase := rfl
@[simp] theorem State.setTake_poolSize (e : EntryId) (b : Option TakeBinding) : (s.setTake e b).poolSize = s.poolSize := rfl
@[simp] theorem State.setTake_guardOn (e : EntryId) (b : Option TakeBinding) : (s.setTake e b).guardOn = s.guardOn := rfl
@[simp] theorem State.setTake_cells (e : EntryId) (b : Option TakeBinding) : (s.setTake e b).cells = s.cells := rfl
@[simp] theorem State.setTake_freeList (e : EntryId) (b : Option TakeBinding) : (s.setTake e b).freeList = s.freeList := rfl
@[simp] theorem State.setTake_queues (e : EntryId) (b : Option TakeBinding) : (s.setTake e b).queues = s.queues := rfl
@[simp] theorem State.setTake_putTable (e : EntryId) (b : Option TakeBinding) : (s.setTake e b).putTable = s.putTable := rfl
@[simp] theorem State.setTake_takeTable (e : EntryId) (b : Option TakeBinding) :
    (s.setTake e b).takeTable = s.takeTable.set e b := rfl
@[simp] theorem State.setTake_drain (e : EntryId) (b : Option TakeBinding) : (s.setTake e b).drain = s.drain := rfl
@[simp] theorem State.setTake_slots (e : EntryId) (b : Option TakeBinding) : (s.setTake e b).slots = s.slots := rfl
@[simp] theorem State.setTake_arrival (e : EntryId) (b : Option TakeBinding) : (s.setTake e b).arrival = s.arrival := rfl
@[simp] theorem State.setTake_tickCount (e : EntryId) (b : Option TakeBinding) :
    (s.setTake e b).tickCount = s.tickCount := rfl
@[simp] theorem State.setTake_tickInterval (e : EntryId) (b : Option TakeBinding) :
    (s.setTake e b).tickInterval = s.tickInterval := rfl
@[simp] theorem State.setTake_tickElapsed (e : EntryId) (b : Option TakeBinding) :
    (s.setTake e b).tickElapsed = s.tickElapsed := rfl
@[simp] theorem State.setTake_locks (e : EntryId) (b : Option TakeBinding) : (s.setTake e b).locks = s.locks := rfl
@[simp] theorem State.setTake_waiting (e : EntryId) (b : Option TakeBinding) : (s.setTake e b).waiting = s.waiting := rfl
@[simp] theorem State.setTake_merges (e : EntryId) (b : Option TakeBinding) : (s.setTake e b).merges = s.merges := rfl
@[simp] theorem State.setTake_latches (e : EntryId) (b : Option TakeBinding) : (s.setTake e b).latches = s.latches := rfl
@[simp] theorem State.setTake_issueQ (e : EntryId) (b : Option TakeBinding) : (s.setTake e b).issueQ = s.issueQ := rfl
@[simp] theorem State.setTake_outstanding (e : EntryId) (b : Option TakeBinding) :
    (s.setTake e b).outstanding = s.outstanding := rfl
@[simp] theorem State.setTake_flags (e : EntryId) (b : Option TakeBinding) : (s.setTake e b).flags = s.flags := rfl
@[simp] theorem State.setTake_attnA (e : EntryId) (b : Option TakeBinding) : (s.setTake e b).attnA = s.attnA := rfl
@[simp] theorem State.setTake_attnB (e : EntryId) (b : Option TakeBinding) : (s.setTake e b).attnB = s.attnB := rfl
@[simp] theorem State.setTake_faultRouting (e : EntryId) (b : Option TakeBinding) :
    (s.setTake e b).faultRouting = s.faultRouting := rfl
@[simp] theorem State.setTake_log (e : EntryId) (b : Option TakeBinding) : (s.setTake e b).log = s.log := rfl
@[simp] theorem State.setTake_overflow (e : EntryId) (b : Option TakeBinding) : (s.setTake e b).overflow = s.overflow := rfl
@[simp] theorem State.setTake_frame (e : EntryId) (b : Option TakeBinding) : (s.setTake e b).frame = s.frame := rfl
@[simp] theorem State.setTake_select (e : EntryId) (b : Option TakeBinding) : (s.setTake e b).select = s.select := rfl
@[simp] theorem State.setTake_mdoSent (e : EntryId) (b : Option TakeBinding) : (s.setTake e b).mdoSent = s.mdoSent := rfl
@[simp] theorem State.setTake_pendingCmd (e : EntryId) (b : Option TakeBinding) :
    (s.setTake e b).pendingCmd = s.pendingCmd := rfl
@[simp] theorem State.setTake_pending (e : EntryId) (b : Option TakeBinding) : (s.setTake e b).pending = s.pending := rfl

/-! ### `State.updFlags` -/

@[simp] theorem State.updFlags_pwrReset (q : QueueId) (f : EventSet → EventSet) :
    (s.updFlags q f).pwrReset = s.pwrReset := rfl
@[simp] theorem State.updFlags_sysReset (q : QueueId) (f : EventSet → EventSet) :
    (s.updFlags q f).sysReset = s.sysReset := rfl
@[simp] theorem State.updFlags_offers (q : QueueId) (f : EventSet → EventSet) : (s.updFlags q f).offers = s.offers := rfl
@[simp] theorem State.updFlags_channels (q : QueueId) (f : EventSet → EventSet) :
    (s.updFlags q f).channels = s.channels := rfl
@[simp] theorem State.updFlags_taken (q : QueueId) (f : EventSet → EventSet) : (s.updFlags q f).taken = s.taken := rfl
@[simp] theorem State.updFlags_responses (q : QueueId) (f : EventSet → EventSet) :
    (s.updFlags q f).responses = s.responses := rfl
@[simp] theorem State.updFlags_steering (q : QueueId) (f : EventSet → EventSet) :
    (s.updFlags q f).steering = s.steering := rfl
@[simp] theorem State.updFlags_apertures (q : QueueId) (f : EventSet → EventSet) :
    (s.updFlags q f).apertures = s.apertures := rfl
@[simp] theorem State.updFlags_arenaBase (q : QueueId) (f : EventSet → EventSet) :
    (s.updFlags q f).arenaBase = s.arenaBase := rfl
@[simp] theorem State.updFlags_poolSize (q : QueueId) (f : EventSet → EventSet) :
    (s.updFlags q f).poolSize = s.poolSize := rfl
@[simp] theorem State.updFlags_guardOn (q : QueueId) (f : EventSet → EventSet) : (s.updFlags q f).guardOn = s.guardOn := rfl
@[simp] theorem State.updFlags_cells (q : QueueId) (f : EventSet → EventSet) : (s.updFlags q f).cells = s.cells := rfl
@[simp] theorem State.updFlags_freeList (q : QueueId) (f : EventSet → EventSet) :
    (s.updFlags q f).freeList = s.freeList := rfl
@[simp] theorem State.updFlags_queues (q : QueueId) (f : EventSet → EventSet) : (s.updFlags q f).queues = s.queues := rfl
@[simp] theorem State.updFlags_putTable (q : QueueId) (f : EventSet → EventSet) :
    (s.updFlags q f).putTable = s.putTable := rfl
@[simp] theorem State.updFlags_takeTable (q : QueueId) (f : EventSet → EventSet) :
    (s.updFlags q f).takeTable = s.takeTable := rfl
@[simp] theorem State.updFlags_drain (q : QueueId) (f : EventSet → EventSet) : (s.updFlags q f).drain = s.drain := rfl
@[simp] theorem State.updFlags_slots (q : QueueId) (f : EventSet → EventSet) : (s.updFlags q f).slots = s.slots := rfl
@[simp] theorem State.updFlags_arrival (q : QueueId) (f : EventSet → EventSet) : (s.updFlags q f).arrival = s.arrival := rfl
@[simp] theorem State.updFlags_tickCount (q : QueueId) (f : EventSet → EventSet) :
    (s.updFlags q f).tickCount = s.tickCount := rfl
@[simp] theorem State.updFlags_tickInterval (q : QueueId) (f : EventSet → EventSet) :
    (s.updFlags q f).tickInterval = s.tickInterval := rfl
@[simp] theorem State.updFlags_tickElapsed (q : QueueId) (f : EventSet → EventSet) :
    (s.updFlags q f).tickElapsed = s.tickElapsed := rfl
@[simp] theorem State.updFlags_locks (q : QueueId) (f : EventSet → EventSet) : (s.updFlags q f).locks = s.locks := rfl
@[simp] theorem State.updFlags_waiting (q : QueueId) (f : EventSet → EventSet) : (s.updFlags q f).waiting = s.waiting := rfl
@[simp] theorem State.updFlags_merges (q : QueueId) (f : EventSet → EventSet) : (s.updFlags q f).merges = s.merges := rfl
@[simp] theorem State.updFlags_latches (q : QueueId) (f : EventSet → EventSet) : (s.updFlags q f).latches = s.latches := rfl
@[simp] theorem State.updFlags_issueQ (q : QueueId) (f : EventSet → EventSet) : (s.updFlags q f).issueQ = s.issueQ := rfl
@[simp] theorem State.updFlags_outstanding (q : QueueId) (f : EventSet → EventSet) :
    (s.updFlags q f).outstanding = s.outstanding := rfl
@[simp] theorem State.updFlags_flags (q : QueueId) (f : EventSet → EventSet) :
    (s.updFlags q f).flags = s.flags.set q (f s.flags[q]) := rfl
@[simp] theorem State.updFlags_attnA (q : QueueId) (f : EventSet → EventSet) : (s.updFlags q f).attnA = s.attnA := rfl
@[simp] theorem State.updFlags_attnB (q : QueueId) (f : EventSet → EventSet) : (s.updFlags q f).attnB = s.attnB := rfl
@[simp] theorem State.updFlags_faultRouting (q : QueueId) (f : EventSet → EventSet) :
    (s.updFlags q f).faultRouting = s.faultRouting := rfl
@[simp] theorem State.updFlags_log (q : QueueId) (f : EventSet → EventSet) : (s.updFlags q f).log = s.log := rfl
@[simp] theorem State.updFlags_overflow (q : QueueId) (f : EventSet → EventSet) :
    (s.updFlags q f).overflow = s.overflow := rfl
@[simp] theorem State.updFlags_frame (q : QueueId) (f : EventSet → EventSet) : (s.updFlags q f).frame = s.frame := rfl
@[simp] theorem State.updFlags_select (q : QueueId) (f : EventSet → EventSet) : (s.updFlags q f).select = s.select := rfl
@[simp] theorem State.updFlags_mdoSent (q : QueueId) (f : EventSet → EventSet) : (s.updFlags q f).mdoSent = s.mdoSent := rfl
@[simp] theorem State.updFlags_pendingCmd (q : QueueId) (f : EventSet → EventSet) :
    (s.updFlags q f).pendingCmd = s.pendingCmd := rfl
@[simp] theorem State.updFlags_pending (q : QueueId) (f : EventSet → EventSet) : (s.updFlags q f).pending = s.pending := rfl

/-! ### `State.take` -/

@[simp] theorem State.take_pwrReset (i : InitId) : (s.take i).pwrReset = s.pwrReset := rfl
@[simp] theorem State.take_sysReset (i : InitId) : (s.take i).sysReset = s.sysReset := rfl
@[simp] theorem State.take_offers (i : InitId) : (s.take i).offers = s.offers := rfl
@[simp] theorem State.take_channels (i : InitId) : (s.take i).channels = s.channels := rfl
@[simp] theorem State.take_taken (i : InitId) : (s.take i).taken = s.taken.set i true := rfl
@[simp] theorem State.take_responses (i : InitId) : (s.take i).responses = s.responses := rfl
@[simp] theorem State.take_steering (i : InitId) : (s.take i).steering = s.steering := rfl
@[simp] theorem State.take_apertures (i : InitId) : (s.take i).apertures = s.apertures := rfl
@[simp] theorem State.take_arenaBase (i : InitId) : (s.take i).arenaBase = s.arenaBase := rfl
@[simp] theorem State.take_poolSize (i : InitId) : (s.take i).poolSize = s.poolSize := rfl
@[simp] theorem State.take_guardOn (i : InitId) : (s.take i).guardOn = s.guardOn := rfl
@[simp] theorem State.take_cells (i : InitId) : (s.take i).cells = s.cells := rfl
@[simp] theorem State.take_freeList (i : InitId) : (s.take i).freeList = s.freeList := rfl
@[simp] theorem State.take_queues (i : InitId) : (s.take i).queues = s.queues := rfl
@[simp] theorem State.take_putTable (i : InitId) : (s.take i).putTable = s.putTable := rfl
@[simp] theorem State.take_takeTable (i : InitId) : (s.take i).takeTable = s.takeTable := rfl
@[simp] theorem State.take_drain (i : InitId) : (s.take i).drain = s.drain := rfl
@[simp] theorem State.take_slots (i : InitId) : (s.take i).slots = s.slots := rfl
@[simp] theorem State.take_arrival (i : InitId) : (s.take i).arrival = s.arrival := rfl
@[simp] theorem State.take_tickCount (i : InitId) : (s.take i).tickCount = s.tickCount := rfl
@[simp] theorem State.take_tickInterval (i : InitId) : (s.take i).tickInterval = s.tickInterval := rfl
@[simp] theorem State.take_tickElapsed (i : InitId) : (s.take i).tickElapsed = s.tickElapsed := rfl
@[simp] theorem State.take_locks (i : InitId) : (s.take i).locks = s.locks := rfl
@[simp] theorem State.take_waiting (i : InitId) : (s.take i).waiting = s.waiting := rfl
@[simp] theorem State.take_merges (i : InitId) : (s.take i).merges = s.merges := rfl
@[simp] theorem State.take_latches (i : InitId) : (s.take i).latches = s.latches := rfl
@[simp] theorem State.take_issueQ (i : InitId) : (s.take i).issueQ = s.issueQ := rfl
@[simp] theorem State.take_outstanding (i : InitId) : (s.take i).outstanding = s.outstanding := rfl
@[simp] theorem State.take_flags (i : InitId) : (s.take i).flags = s.flags := rfl
@[simp] theorem State.take_attnA (i : InitId) : (s.take i).attnA = s.attnA := rfl
@[simp] theorem State.take_attnB (i : InitId) : (s.take i).attnB = s.attnB := rfl
@[simp] theorem State.take_faultRouting (i : InitId) : (s.take i).faultRouting = s.faultRouting := rfl
@[simp] theorem State.take_log (i : InitId) : (s.take i).log = s.log := rfl
@[simp] theorem State.take_overflow (i : InitId) : (s.take i).overflow = s.overflow := rfl
@[simp] theorem State.take_frame (i : InitId) : (s.take i).frame = s.frame := rfl
@[simp] theorem State.take_select (i : InitId) : (s.take i).select = s.select := rfl
@[simp] theorem State.take_mdoSent (i : InitId) : (s.take i).mdoSent = s.mdoSent := rfl
@[simp] theorem State.take_pendingCmd (i : InitId) : (s.take i).pendingCmd = s.pendingCmd := rfl
@[simp] theorem State.take_pending (i : InitId) : (s.take i).pending = s.pending := rfl

/-! ### `State.vacate` -/

@[simp] theorem State.vacate_pwrReset (k : SlotId) : (s.vacate k).pwrReset = s.pwrReset := rfl
@[simp] theorem State.vacate_sysReset (k : SlotId) : (s.vacate k).sysReset = s.sysReset := rfl
@[simp] theorem State.vacate_offers (k : SlotId) : (s.vacate k).offers = s.offers := rfl
@[simp] theorem State.vacate_channels (k : SlotId) : (s.vacate k).channels = s.channels := rfl
@[simp] theorem State.vacate_taken (k : SlotId) : (s.vacate k).taken = s.taken := rfl
@[simp] theorem State.vacate_responses (k : SlotId) : (s.vacate k).responses = s.responses := rfl
@[simp] theorem State.vacate_steering (k : SlotId) : (s.vacate k).steering = s.steering := rfl
@[simp] theorem State.vacate_apertures (k : SlotId) : (s.vacate k).apertures = s.apertures := rfl
@[simp] theorem State.vacate_arenaBase (k : SlotId) : (s.vacate k).arenaBase = s.arenaBase := rfl
@[simp] theorem State.vacate_poolSize (k : SlotId) : (s.vacate k).poolSize = s.poolSize := rfl
@[simp] theorem State.vacate_guardOn (k : SlotId) : (s.vacate k).guardOn = s.guardOn := rfl
@[simp] theorem State.vacate_cells (k : SlotId) : (s.vacate k).cells = s.cells := rfl
@[simp] theorem State.vacate_freeList (k : SlotId) : (s.vacate k).freeList = s.freeList := rfl
@[simp] theorem State.vacate_queues (k : SlotId) : (s.vacate k).queues = s.queues := rfl
@[simp] theorem State.vacate_putTable (k : SlotId) : (s.vacate k).putTable = s.putTable := rfl
@[simp] theorem State.vacate_takeTable (k : SlotId) : (s.vacate k).takeTable = s.takeTable := rfl
@[simp] theorem State.vacate_drain (k : SlotId) : (s.vacate k).drain = s.drain := rfl
@[simp] theorem State.vacate_slots (k : SlotId) : (s.vacate k).slots = s.slots.set k none := rfl
@[simp] theorem State.vacate_arrival (k : SlotId) : (s.vacate k).arrival = s.arrival.filter (fun j => decide (j ≠ k)) := rfl
@[simp] theorem State.vacate_tickCount (k : SlotId) : (s.vacate k).tickCount = s.tickCount := rfl
@[simp] theorem State.vacate_tickInterval (k : SlotId) : (s.vacate k).tickInterval = s.tickInterval := rfl
@[simp] theorem State.vacate_tickElapsed (k : SlotId) : (s.vacate k).tickElapsed = s.tickElapsed := rfl
@[simp] theorem State.vacate_locks (k : SlotId) : (s.vacate k).locks = s.locks := rfl
@[simp] theorem State.vacate_waiting (k : SlotId) : (s.vacate k).waiting = s.waiting := rfl
@[simp] theorem State.vacate_merges (k : SlotId) : (s.vacate k).merges = s.merges := rfl
@[simp] theorem State.vacate_latches (k : SlotId) : (s.vacate k).latches = s.latches := rfl
@[simp] theorem State.vacate_issueQ (k : SlotId) : (s.vacate k).issueQ = s.issueQ := rfl
@[simp] theorem State.vacate_outstanding (k : SlotId) : (s.vacate k).outstanding = s.outstanding := rfl
@[simp] theorem State.vacate_flags (k : SlotId) : (s.vacate k).flags = s.flags := rfl
@[simp] theorem State.vacate_attnA (k : SlotId) : (s.vacate k).attnA = s.attnA := rfl
@[simp] theorem State.vacate_attnB (k : SlotId) : (s.vacate k).attnB = s.attnB := rfl
@[simp] theorem State.vacate_faultRouting (k : SlotId) : (s.vacate k).faultRouting = s.faultRouting := rfl
@[simp] theorem State.vacate_log (k : SlotId) : (s.vacate k).log = s.log := rfl
@[simp] theorem State.vacate_overflow (k : SlotId) : (s.vacate k).overflow = s.overflow := rfl
@[simp] theorem State.vacate_frame (k : SlotId) : (s.vacate k).frame = s.frame := rfl
@[simp] theorem State.vacate_select (k : SlotId) : (s.vacate k).select = s.select := rfl
@[simp] theorem State.vacate_mdoSent (k : SlotId) : (s.vacate k).mdoSent = s.mdoSent := rfl
@[simp] theorem State.vacate_pendingCmd (k : SlotId) : (s.vacate k).pendingCmd = s.pendingCmd := rfl
@[simp] theorem State.vacate_pending (k : SlotId) : (s.vacate k).pending = s.pending := rfl

/-! ### `State.setMerge` -/

@[simp] theorem State.setMerge_pwrReset (i : InitId) (m : Option MergeBeat) : (s.setMerge i m).pwrReset = s.pwrReset := rfl
@[simp] theorem State.setMerge_sysReset (i : InitId) (m : Option MergeBeat) : (s.setMerge i m).sysReset = s.sysReset := rfl
@[simp] theorem State.setMerge_offers (i : InitId) (m : Option MergeBeat) : (s.setMerge i m).offers = s.offers := rfl
@[simp] theorem State.setMerge_channels (i : InitId) (m : Option MergeBeat) : (s.setMerge i m).channels = s.channels := rfl
@[simp] theorem State.setMerge_taken (i : InitId) (m : Option MergeBeat) : (s.setMerge i m).taken = s.taken := rfl
@[simp] theorem State.setMerge_responses (i : InitId) (m : Option MergeBeat) : (s.setMerge i m).responses = s.responses := rfl
@[simp] theorem State.setMerge_steering (i : InitId) (m : Option MergeBeat) : (s.setMerge i m).steering = s.steering := rfl
@[simp] theorem State.setMerge_apertures (i : InitId) (m : Option MergeBeat) : (s.setMerge i m).apertures = s.apertures := rfl
@[simp] theorem State.setMerge_arenaBase (i : InitId) (m : Option MergeBeat) : (s.setMerge i m).arenaBase = s.arenaBase := rfl
@[simp] theorem State.setMerge_poolSize (i : InitId) (m : Option MergeBeat) : (s.setMerge i m).poolSize = s.poolSize := rfl
@[simp] theorem State.setMerge_guardOn (i : InitId) (m : Option MergeBeat) : (s.setMerge i m).guardOn = s.guardOn := rfl
@[simp] theorem State.setMerge_cells (i : InitId) (m : Option MergeBeat) : (s.setMerge i m).cells = s.cells := rfl
@[simp] theorem State.setMerge_freeList (i : InitId) (m : Option MergeBeat) : (s.setMerge i m).freeList = s.freeList := rfl
@[simp] theorem State.setMerge_queues (i : InitId) (m : Option MergeBeat) : (s.setMerge i m).queues = s.queues := rfl
@[simp] theorem State.setMerge_putTable (i : InitId) (m : Option MergeBeat) : (s.setMerge i m).putTable = s.putTable := rfl
@[simp] theorem State.setMerge_takeTable (i : InitId) (m : Option MergeBeat) : (s.setMerge i m).takeTable = s.takeTable := rfl
@[simp] theorem State.setMerge_drain (i : InitId) (m : Option MergeBeat) : (s.setMerge i m).drain = s.drain := rfl
@[simp] theorem State.setMerge_slots (i : InitId) (m : Option MergeBeat) : (s.setMerge i m).slots = s.slots := rfl
@[simp] theorem State.setMerge_arrival (i : InitId) (m : Option MergeBeat) : (s.setMerge i m).arrival = s.arrival := rfl
@[simp] theorem State.setMerge_tickCount (i : InitId) (m : Option MergeBeat) : (s.setMerge i m).tickCount = s.tickCount := rfl
@[simp] theorem State.setMerge_tickInterval (i : InitId) (m : Option MergeBeat) :
    (s.setMerge i m).tickInterval = s.tickInterval := rfl
@[simp] theorem State.setMerge_tickElapsed (i : InitId) (m : Option MergeBeat) :
    (s.setMerge i m).tickElapsed = s.tickElapsed := rfl
@[simp] theorem State.setMerge_locks (i : InitId) (m : Option MergeBeat) : (s.setMerge i m).locks = s.locks := rfl
@[simp] theorem State.setMerge_waiting (i : InitId) (m : Option MergeBeat) : (s.setMerge i m).waiting = s.waiting := rfl
@[simp] theorem State.setMerge_merges (i : InitId) (m : Option MergeBeat) : (s.setMerge i m).merges = s.merges.set i m := rfl
@[simp] theorem State.setMerge_latches (i : InitId) (m : Option MergeBeat) : (s.setMerge i m).latches = s.latches := rfl
@[simp] theorem State.setMerge_issueQ (i : InitId) (m : Option MergeBeat) : (s.setMerge i m).issueQ = s.issueQ := rfl
@[simp] theorem State.setMerge_outstanding (i : InitId) (m : Option MergeBeat) :
    (s.setMerge i m).outstanding = s.outstanding := rfl
@[simp] theorem State.setMerge_flags (i : InitId) (m : Option MergeBeat) : (s.setMerge i m).flags = s.flags := rfl
@[simp] theorem State.setMerge_attnA (i : InitId) (m : Option MergeBeat) : (s.setMerge i m).attnA = s.attnA := rfl
@[simp] theorem State.setMerge_attnB (i : InitId) (m : Option MergeBeat) : (s.setMerge i m).attnB = s.attnB := rfl
@[simp] theorem State.setMerge_faultRouting (i : InitId) (m : Option MergeBeat) :
    (s.setMerge i m).faultRouting = s.faultRouting := rfl
@[simp] theorem State.setMerge_log (i : InitId) (m : Option MergeBeat) : (s.setMerge i m).log = s.log := rfl
@[simp] theorem State.setMerge_overflow (i : InitId) (m : Option MergeBeat) : (s.setMerge i m).overflow = s.overflow := rfl
@[simp] theorem State.setMerge_frame (i : InitId) (m : Option MergeBeat) : (s.setMerge i m).frame = s.frame := rfl
@[simp] theorem State.setMerge_select (i : InitId) (m : Option MergeBeat) : (s.setMerge i m).select = s.select := rfl
@[simp] theorem State.setMerge_mdoSent (i : InitId) (m : Option MergeBeat) : (s.setMerge i m).mdoSent = s.mdoSent := rfl
@[simp] theorem State.setMerge_pendingCmd (i : InitId) (m : Option MergeBeat) :
    (s.setMerge i m).pendingCmd = s.pendingCmd := rfl
@[simp] theorem State.setMerge_pending (i : InitId) (m : Option MergeBeat) : (s.setMerge i m).pending = s.pending := rfl

/-! ### `State.setLatch` -/

@[simp] theorem State.setLatch_pwrReset (i : InitId) (l : Latch) : (s.setLatch i l).pwrReset = s.pwrReset := rfl
@[simp] theorem State.setLatch_sysReset (i : InitId) (l : Latch) : (s.setLatch i l).sysReset = s.sysReset := rfl
@[simp] theorem State.setLatch_offers (i : InitId) (l : Latch) : (s.setLatch i l).offers = s.offers := rfl
@[simp] theorem State.setLatch_channels (i : InitId) (l : Latch) : (s.setLatch i l).channels = s.channels := rfl
@[simp] theorem State.setLatch_taken (i : InitId) (l : Latch) : (s.setLatch i l).taken = s.taken := rfl
@[simp] theorem State.setLatch_responses (i : InitId) (l : Latch) : (s.setLatch i l).responses = s.responses := rfl
@[simp] theorem State.setLatch_steering (i : InitId) (l : Latch) : (s.setLatch i l).steering = s.steering := rfl
@[simp] theorem State.setLatch_apertures (i : InitId) (l : Latch) : (s.setLatch i l).apertures = s.apertures := rfl
@[simp] theorem State.setLatch_arenaBase (i : InitId) (l : Latch) : (s.setLatch i l).arenaBase = s.arenaBase := rfl
@[simp] theorem State.setLatch_poolSize (i : InitId) (l : Latch) : (s.setLatch i l).poolSize = s.poolSize := rfl
@[simp] theorem State.setLatch_guardOn (i : InitId) (l : Latch) : (s.setLatch i l).guardOn = s.guardOn := rfl
@[simp] theorem State.setLatch_cells (i : InitId) (l : Latch) : (s.setLatch i l).cells = s.cells := rfl
@[simp] theorem State.setLatch_freeList (i : InitId) (l : Latch) : (s.setLatch i l).freeList = s.freeList := rfl
@[simp] theorem State.setLatch_queues (i : InitId) (l : Latch) : (s.setLatch i l).queues = s.queues := rfl
@[simp] theorem State.setLatch_putTable (i : InitId) (l : Latch) : (s.setLatch i l).putTable = s.putTable := rfl
@[simp] theorem State.setLatch_takeTable (i : InitId) (l : Latch) : (s.setLatch i l).takeTable = s.takeTable := rfl
@[simp] theorem State.setLatch_drain (i : InitId) (l : Latch) : (s.setLatch i l).drain = s.drain := rfl
@[simp] theorem State.setLatch_slots (i : InitId) (l : Latch) : (s.setLatch i l).slots = s.slots := rfl
@[simp] theorem State.setLatch_arrival (i : InitId) (l : Latch) : (s.setLatch i l).arrival = s.arrival := rfl
@[simp] theorem State.setLatch_tickCount (i : InitId) (l : Latch) : (s.setLatch i l).tickCount = s.tickCount := rfl
@[simp] theorem State.setLatch_tickInterval (i : InitId) (l : Latch) : (s.setLatch i l).tickInterval = s.tickInterval := rfl
@[simp] theorem State.setLatch_tickElapsed (i : InitId) (l : Latch) : (s.setLatch i l).tickElapsed = s.tickElapsed := rfl
@[simp] theorem State.setLatch_locks (i : InitId) (l : Latch) : (s.setLatch i l).locks = s.locks := rfl
@[simp] theorem State.setLatch_waiting (i : InitId) (l : Latch) : (s.setLatch i l).waiting = s.waiting := rfl
@[simp] theorem State.setLatch_merges (i : InitId) (l : Latch) : (s.setLatch i l).merges = s.merges := rfl
@[simp] theorem State.setLatch_latches (i : InitId) (l : Latch) : (s.setLatch i l).latches = s.latches.set i l := rfl
@[simp] theorem State.setLatch_issueQ (i : InitId) (l : Latch) : (s.setLatch i l).issueQ = s.issueQ := rfl
@[simp] theorem State.setLatch_outstanding (i : InitId) (l : Latch) : (s.setLatch i l).outstanding = s.outstanding := rfl
@[simp] theorem State.setLatch_flags (i : InitId) (l : Latch) : (s.setLatch i l).flags = s.flags := rfl
@[simp] theorem State.setLatch_attnA (i : InitId) (l : Latch) : (s.setLatch i l).attnA = s.attnA := rfl
@[simp] theorem State.setLatch_attnB (i : InitId) (l : Latch) : (s.setLatch i l).attnB = s.attnB := rfl
@[simp] theorem State.setLatch_faultRouting (i : InitId) (l : Latch) : (s.setLatch i l).faultRouting = s.faultRouting := rfl
@[simp] theorem State.setLatch_log (i : InitId) (l : Latch) : (s.setLatch i l).log = s.log := rfl
@[simp] theorem State.setLatch_overflow (i : InitId) (l : Latch) : (s.setLatch i l).overflow = s.overflow := rfl
@[simp] theorem State.setLatch_frame (i : InitId) (l : Latch) : (s.setLatch i l).frame = s.frame := rfl
@[simp] theorem State.setLatch_select (i : InitId) (l : Latch) : (s.setLatch i l).select = s.select := rfl
@[simp] theorem State.setLatch_mdoSent (i : InitId) (l : Latch) : (s.setLatch i l).mdoSent = s.mdoSent := rfl
@[simp] theorem State.setLatch_pendingCmd (i : InitId) (l : Latch) : (s.setLatch i l).pendingCmd = s.pendingCmd := rfl
@[simp] theorem State.setLatch_pending (i : InitId) (l : Latch) : (s.setLatch i l).pending = s.pending := rfl

/-! ### `State.setAperture` -/

@[simp] theorem State.setAperture_pwrReset (k : ApId) (a : Aperture) : (s.setAperture k a).pwrReset = s.pwrReset := rfl
@[simp] theorem State.setAperture_sysReset (k : ApId) (a : Aperture) : (s.setAperture k a).sysReset = s.sysReset := rfl
@[simp] theorem State.setAperture_offers (k : ApId) (a : Aperture) : (s.setAperture k a).offers = s.offers := rfl
@[simp] theorem State.setAperture_channels (k : ApId) (a : Aperture) : (s.setAperture k a).channels = s.channels := rfl
@[simp] theorem State.setAperture_taken (k : ApId) (a : Aperture) : (s.setAperture k a).taken = s.taken := rfl
@[simp] theorem State.setAperture_responses (k : ApId) (a : Aperture) : (s.setAperture k a).responses = s.responses := rfl
@[simp] theorem State.setAperture_steering (k : ApId) (a : Aperture) : (s.setAperture k a).steering = s.steering := rfl
@[simp] theorem State.setAperture_apertures (k : ApId) (a : Aperture) :
    (s.setAperture k a).apertures = s.apertures.set k a := rfl
@[simp] theorem State.setAperture_arenaBase (k : ApId) (a : Aperture) : (s.setAperture k a).arenaBase = s.arenaBase := rfl
@[simp] theorem State.setAperture_poolSize (k : ApId) (a : Aperture) : (s.setAperture k a).poolSize = s.poolSize := rfl
@[simp] theorem State.setAperture_guardOn (k : ApId) (a : Aperture) : (s.setAperture k a).guardOn = s.guardOn := rfl
@[simp] theorem State.setAperture_cells (k : ApId) (a : Aperture) : (s.setAperture k a).cells = s.cells := rfl
@[simp] theorem State.setAperture_freeList (k : ApId) (a : Aperture) : (s.setAperture k a).freeList = s.freeList := rfl
@[simp] theorem State.setAperture_queues (k : ApId) (a : Aperture) : (s.setAperture k a).queues = s.queues := rfl
@[simp] theorem State.setAperture_putTable (k : ApId) (a : Aperture) : (s.setAperture k a).putTable = s.putTable := rfl
@[simp] theorem State.setAperture_takeTable (k : ApId) (a : Aperture) : (s.setAperture k a).takeTable = s.takeTable := rfl
@[simp] theorem State.setAperture_drain (k : ApId) (a : Aperture) : (s.setAperture k a).drain = s.drain := rfl
@[simp] theorem State.setAperture_slots (k : ApId) (a : Aperture) : (s.setAperture k a).slots = s.slots := rfl
@[simp] theorem State.setAperture_arrival (k : ApId) (a : Aperture) : (s.setAperture k a).arrival = s.arrival := rfl
@[simp] theorem State.setAperture_tickCount (k : ApId) (a : Aperture) : (s.setAperture k a).tickCount = s.tickCount := rfl
@[simp] theorem State.setAperture_tickInterval (k : ApId) (a : Aperture) :
    (s.setAperture k a).tickInterval = s.tickInterval := rfl
@[simp] theorem State.setAperture_tickElapsed (k : ApId) (a : Aperture) :
    (s.setAperture k a).tickElapsed = s.tickElapsed := rfl
@[simp] theorem State.setAperture_locks (k : ApId) (a : Aperture) : (s.setAperture k a).locks = s.locks := rfl
@[simp] theorem State.setAperture_waiting (k : ApId) (a : Aperture) : (s.setAperture k a).waiting = s.waiting := rfl
@[simp] theorem State.setAperture_merges (k : ApId) (a : Aperture) : (s.setAperture k a).merges = s.merges := rfl
@[simp] theorem State.setAperture_latches (k : ApId) (a : Aperture) : (s.setAperture k a).latches = s.latches := rfl
@[simp] theorem State.setAperture_issueQ (k : ApId) (a : Aperture) : (s.setAperture k a).issueQ = s.issueQ := rfl
@[simp] theorem State.setAperture_outstanding (k : ApId) (a : Aperture) :
    (s.setAperture k a).outstanding = s.outstanding := rfl
@[simp] theorem State.setAperture_flags (k : ApId) (a : Aperture) : (s.setAperture k a).flags = s.flags := rfl
@[simp] theorem State.setAperture_attnA (k : ApId) (a : Aperture) : (s.setAperture k a).attnA = s.attnA := rfl
@[simp] theorem State.setAperture_attnB (k : ApId) (a : Aperture) : (s.setAperture k a).attnB = s.attnB := rfl
@[simp] theorem State.setAperture_faultRouting (k : ApId) (a : Aperture) :
    (s.setAperture k a).faultRouting = s.faultRouting := rfl
@[simp] theorem State.setAperture_log (k : ApId) (a : Aperture) : (s.setAperture k a).log = s.log := rfl
@[simp] theorem State.setAperture_overflow (k : ApId) (a : Aperture) : (s.setAperture k a).overflow = s.overflow := rfl
@[simp] theorem State.setAperture_frame (k : ApId) (a : Aperture) : (s.setAperture k a).frame = s.frame := rfl
@[simp] theorem State.setAperture_select (k : ApId) (a : Aperture) : (s.setAperture k a).select = s.select := rfl
@[simp] theorem State.setAperture_mdoSent (k : ApId) (a : Aperture) : (s.setAperture k a).mdoSent = s.mdoSent := rfl
@[simp] theorem State.setAperture_pendingCmd (k : ApId) (a : Aperture) : (s.setAperture k a).pendingCmd = s.pendingCmd := rfl
@[simp] theorem State.setAperture_pending (k : ApId) (a : Aperture) : (s.setAperture k a).pending = s.pending := rfl

/-! ### `State.port` -/

@[simp] theorem State.port_pwrReset (t : State) : (s.port t).pwrReset = s.pwrReset := rfl
@[simp] theorem State.port_sysReset (t : State) : (s.port t).sysReset = s.sysReset := rfl
@[simp] theorem State.port_offers (t : State) : (s.port t).offers = t.offers := rfl
@[simp] theorem State.port_channels (t : State) : (s.port t).channels = t.channels := rfl
@[simp] theorem State.port_taken (t : State) : (s.port t).taken = t.taken := rfl
@[simp] theorem State.port_responses (t : State) : (s.port t).responses = t.responses := rfl
@[simp] theorem State.port_steering (t : State) : (s.port t).steering = s.steering := rfl
@[simp] theorem State.port_apertures (t : State) : (s.port t).apertures = s.apertures := rfl
@[simp] theorem State.port_arenaBase (t : State) : (s.port t).arenaBase = s.arenaBase := rfl
@[simp] theorem State.port_poolSize (t : State) : (s.port t).poolSize = s.poolSize := rfl
@[simp] theorem State.port_guardOn (t : State) : (s.port t).guardOn = s.guardOn := rfl
@[simp] theorem State.port_cells (t : State) : (s.port t).cells = s.cells := rfl
@[simp] theorem State.port_freeList (t : State) : (s.port t).freeList = s.freeList := rfl
@[simp] theorem State.port_queues (t : State) : (s.port t).queues = s.queues := rfl
@[simp] theorem State.port_putTable (t : State) : (s.port t).putTable = s.putTable := rfl
@[simp] theorem State.port_takeTable (t : State) : (s.port t).takeTable = s.takeTable := rfl
@[simp] theorem State.port_drain (t : State) : (s.port t).drain = s.drain := rfl
@[simp] theorem State.port_slots (t : State) : (s.port t).slots = s.slots := rfl
@[simp] theorem State.port_arrival (t : State) : (s.port t).arrival = s.arrival := rfl
@[simp] theorem State.port_tickCount (t : State) : (s.port t).tickCount = s.tickCount := rfl
@[simp] theorem State.port_tickInterval (t : State) : (s.port t).tickInterval = s.tickInterval := rfl
@[simp] theorem State.port_tickElapsed (t : State) : (s.port t).tickElapsed = s.tickElapsed := rfl
@[simp] theorem State.port_locks (t : State) : (s.port t).locks = s.locks := rfl
@[simp] theorem State.port_waiting (t : State) : (s.port t).waiting = s.waiting := rfl
@[simp] theorem State.port_merges (t : State) : (s.port t).merges = s.merges := rfl
@[simp] theorem State.port_latches (t : State) : (s.port t).latches = s.latches := rfl
@[simp] theorem State.port_issueQ (t : State) : (s.port t).issueQ = s.issueQ := rfl
@[simp] theorem State.port_outstanding (t : State) : (s.port t).outstanding = s.outstanding := rfl
@[simp] theorem State.port_flags (t : State) : (s.port t).flags = s.flags := rfl
@[simp] theorem State.port_attnA (t : State) : (s.port t).attnA = s.attnA := rfl
@[simp] theorem State.port_attnB (t : State) : (s.port t).attnB = s.attnB := rfl
@[simp] theorem State.port_faultRouting (t : State) : (s.port t).faultRouting = s.faultRouting := rfl
@[simp] theorem State.port_log (t : State) : (s.port t).log = s.log := rfl
@[simp] theorem State.port_overflow (t : State) : (s.port t).overflow = s.overflow := rfl
@[simp] theorem State.port_frame (t : State) : (s.port t).frame = s.frame := rfl
@[simp] theorem State.port_select (t : State) : (s.port t).select = s.select := rfl
@[simp] theorem State.port_mdoSent (t : State) : (s.port t).mdoSent = s.mdoSent := rfl
@[simp] theorem State.port_pendingCmd (t : State) : (s.port t).pendingCmd = s.pendingCmd := rfl
@[simp] theorem State.port_pending (t : State) : (s.port t).pending = s.pending := rfl

/-! ### `State.notify`: only the flags and the lines -/

@[simp] theorem State.notify_pwrReset : s.notify.pwrReset = s.pwrReset := rfl
@[simp] theorem State.notify_sysReset : s.notify.sysReset = s.sysReset := rfl
@[simp] theorem State.notify_offers : s.notify.offers = s.offers := rfl
@[simp] theorem State.notify_channels : s.notify.channels = s.channels := rfl
@[simp] theorem State.notify_taken : s.notify.taken = s.taken := rfl
@[simp] theorem State.notify_responses : s.notify.responses = s.responses := rfl
@[simp] theorem State.notify_steering : s.notify.steering = s.steering := rfl
@[simp] theorem State.notify_apertures : s.notify.apertures = s.apertures := rfl
@[simp] theorem State.notify_arenaBase : s.notify.arenaBase = s.arenaBase := rfl
@[simp] theorem State.notify_poolSize : s.notify.poolSize = s.poolSize := rfl
@[simp] theorem State.notify_guardOn : s.notify.guardOn = s.guardOn := rfl
@[simp] theorem State.notify_cells : s.notify.cells = s.cells := rfl
@[simp] theorem State.notify_freeList : s.notify.freeList = s.freeList := rfl
@[simp] theorem State.notify_queues : s.notify.queues = s.queues := rfl
@[simp] theorem State.notify_putTable : s.notify.putTable = s.putTable := rfl
@[simp] theorem State.notify_takeTable : s.notify.takeTable = s.takeTable := rfl
@[simp] theorem State.notify_drain : s.notify.drain = s.drain := rfl
@[simp] theorem State.notify_slots : s.notify.slots = s.slots := rfl
@[simp] theorem State.notify_arrival : s.notify.arrival = s.arrival := rfl
@[simp] theorem State.notify_tickCount : s.notify.tickCount = s.tickCount := rfl
@[simp] theorem State.notify_tickInterval : s.notify.tickInterval = s.tickInterval := rfl
@[simp] theorem State.notify_tickElapsed : s.notify.tickElapsed = s.tickElapsed := rfl
@[simp] theorem State.notify_locks : s.notify.locks = s.locks := rfl
@[simp] theorem State.notify_waiting : s.notify.waiting = s.waiting := rfl
@[simp] theorem State.notify_merges : s.notify.merges = s.merges := rfl
@[simp] theorem State.notify_latches : s.notify.latches = s.latches := rfl
@[simp] theorem State.notify_issueQ : s.notify.issueQ = s.issueQ := rfl
@[simp] theorem State.notify_outstanding : s.notify.outstanding = s.outstanding := rfl
@[simp] theorem State.notify_faultRouting : s.notify.faultRouting = s.faultRouting := rfl
@[simp] theorem State.notify_log : s.notify.log = s.log := rfl
@[simp] theorem State.notify_overflow : s.notify.overflow = s.overflow := rfl
@[simp] theorem State.notify_frame : s.notify.frame = s.frame := rfl
@[simp] theorem State.notify_select : s.notify.select = s.select := rfl
@[simp] theorem State.notify_mdoSent : s.notify.mdoSent = s.mdoSent := rfl
@[simp] theorem State.notify_pendingCmd : s.notify.pendingCmd = s.pendingCmd := rfl
@[simp] theorem State.notify_pending : s.notify.pending = s.pending := rfl
@[simp] theorem State.notify_flags : s.notify.flags = s.readyFlags := rfl

/-! ### `State.appendRecord`: only the log and its overflow count -/

/-- A record joins the log or its overflow count, and nothing else changes (R153). -/
theorem State.appendRecord_eq (r : FaultRecord) :
    s.appendRecord r = { s with log := (s.appendRecord r).log, overflow := (s.appendRecord r).overflow } := by
  unfold State.appendRecord; split <;> rfl

@[simp] theorem State.appendRecord_pwrReset (r : FaultRecord) : (s.appendRecord r).pwrReset = s.pwrReset := by
  rw [State.appendRecord_eq]
@[simp] theorem State.appendRecord_sysReset (r : FaultRecord) : (s.appendRecord r).sysReset = s.sysReset := by
  rw [State.appendRecord_eq]
@[simp] theorem State.appendRecord_offers (r : FaultRecord) : (s.appendRecord r).offers = s.offers := by
  rw [State.appendRecord_eq]
@[simp] theorem State.appendRecord_channels (r : FaultRecord) : (s.appendRecord r).channels = s.channels := by
  rw [State.appendRecord_eq]
@[simp] theorem State.appendRecord_taken (r : FaultRecord) : (s.appendRecord r).taken = s.taken := by
  rw [State.appendRecord_eq]
@[simp] theorem State.appendRecord_responses (r : FaultRecord) : (s.appendRecord r).responses = s.responses := by
  rw [State.appendRecord_eq]
@[simp] theorem State.appendRecord_steering (r : FaultRecord) : (s.appendRecord r).steering = s.steering := by
  rw [State.appendRecord_eq]
@[simp] theorem State.appendRecord_apertures (r : FaultRecord) : (s.appendRecord r).apertures = s.apertures := by
  rw [State.appendRecord_eq]
@[simp] theorem State.appendRecord_arenaBase (r : FaultRecord) : (s.appendRecord r).arenaBase = s.arenaBase := by
  rw [State.appendRecord_eq]
@[simp] theorem State.appendRecord_poolSize (r : FaultRecord) : (s.appendRecord r).poolSize = s.poolSize := by
  rw [State.appendRecord_eq]
@[simp] theorem State.appendRecord_guardOn (r : FaultRecord) : (s.appendRecord r).guardOn = s.guardOn := by
  rw [State.appendRecord_eq]
@[simp] theorem State.appendRecord_cells (r : FaultRecord) : (s.appendRecord r).cells = s.cells := by
  rw [State.appendRecord_eq]
@[simp] theorem State.appendRecord_freeList (r : FaultRecord) : (s.appendRecord r).freeList = s.freeList := by
  rw [State.appendRecord_eq]
@[simp] theorem State.appendRecord_queues (r : FaultRecord) : (s.appendRecord r).queues = s.queues := by
  rw [State.appendRecord_eq]
@[simp] theorem State.appendRecord_putTable (r : FaultRecord) : (s.appendRecord r).putTable = s.putTable := by
  rw [State.appendRecord_eq]
@[simp] theorem State.appendRecord_takeTable (r : FaultRecord) : (s.appendRecord r).takeTable = s.takeTable := by
  rw [State.appendRecord_eq]
@[simp] theorem State.appendRecord_drain (r : FaultRecord) : (s.appendRecord r).drain = s.drain := by
  rw [State.appendRecord_eq]
@[simp] theorem State.appendRecord_slots (r : FaultRecord) : (s.appendRecord r).slots = s.slots := by
  rw [State.appendRecord_eq]
@[simp] theorem State.appendRecord_arrival (r : FaultRecord) : (s.appendRecord r).arrival = s.arrival := by
  rw [State.appendRecord_eq]
@[simp] theorem State.appendRecord_tickCount (r : FaultRecord) : (s.appendRecord r).tickCount = s.tickCount := by
  rw [State.appendRecord_eq]
@[simp] theorem State.appendRecord_tickInterval (r : FaultRecord) : (s.appendRecord r).tickInterval = s.tickInterval := by
  rw [State.appendRecord_eq]
@[simp] theorem State.appendRecord_tickElapsed (r : FaultRecord) : (s.appendRecord r).tickElapsed = s.tickElapsed := by
  rw [State.appendRecord_eq]
@[simp] theorem State.appendRecord_locks (r : FaultRecord) : (s.appendRecord r).locks = s.locks := by
  rw [State.appendRecord_eq]
@[simp] theorem State.appendRecord_waiting (r : FaultRecord) : (s.appendRecord r).waiting = s.waiting := by
  rw [State.appendRecord_eq]
@[simp] theorem State.appendRecord_merges (r : FaultRecord) : (s.appendRecord r).merges = s.merges := by
  rw [State.appendRecord_eq]
@[simp] theorem State.appendRecord_latches (r : FaultRecord) : (s.appendRecord r).latches = s.latches := by
  rw [State.appendRecord_eq]
@[simp] theorem State.appendRecord_issueQ (r : FaultRecord) : (s.appendRecord r).issueQ = s.issueQ := by
  rw [State.appendRecord_eq]
@[simp] theorem State.appendRecord_outstanding (r : FaultRecord) : (s.appendRecord r).outstanding = s.outstanding := by
  rw [State.appendRecord_eq]
@[simp] theorem State.appendRecord_flags (r : FaultRecord) : (s.appendRecord r).flags = s.flags := by
  rw [State.appendRecord_eq]
@[simp] theorem State.appendRecord_attnA (r : FaultRecord) : (s.appendRecord r).attnA = s.attnA := by
  rw [State.appendRecord_eq]
@[simp] theorem State.appendRecord_attnB (r : FaultRecord) : (s.appendRecord r).attnB = s.attnB := by
  rw [State.appendRecord_eq]
@[simp] theorem State.appendRecord_faultRouting (r : FaultRecord) : (s.appendRecord r).faultRouting = s.faultRouting := by
  rw [State.appendRecord_eq]
@[simp] theorem State.appendRecord_frame (r : FaultRecord) : (s.appendRecord r).frame = s.frame := by
  rw [State.appendRecord_eq]
@[simp] theorem State.appendRecord_select (r : FaultRecord) : (s.appendRecord r).select = s.select := by
  rw [State.appendRecord_eq]
@[simp] theorem State.appendRecord_mdoSent (r : FaultRecord) : (s.appendRecord r).mdoSent = s.mdoSent := by
  rw [State.appendRecord_eq]
@[simp] theorem State.appendRecord_pendingCmd (r : FaultRecord) : (s.appendRecord r).pendingCmd = s.pendingCmd := by
  rw [State.appendRecord_eq]
@[simp] theorem State.appendRecord_pending (r : FaultRecord) : (s.appendRecord r).pending = s.pending := by
  rw [State.appendRecord_eq]

/-! ### Updates through a table -/

@[simp] theorem State.updCell_eq (c : Nat) (f : Cell → Cell) : s.updCell c f = s.setCell c (f (s.cell c)) := rfl
@[simp] theorem State.updQueue_eq (q : QueueId) (f : QueueCtx → QueueCtx) :
    s.updQueue q f = s.setQueue q (f (s.queue q)) := rfl

/-- A queue reads as it was last written. -/
@[simp] theorem State.setQueue_queue_self (q : QueueId) (x : QueueCtx) : (s.setQueue q x).queue q = x := by
  simp [State.queue]

/-- Writing a queue leaves the others. -/
theorem State.setQueue_queue_ne {p q : QueueId} (h : p ≠ q) (x : QueueCtx) : (s.setQueue q x).queue p = s.queue p := by
  have h' : (q : Nat) ≠ p := fun e => h (Fin.ext e.symm)
  simp [State.queue, h']

/-- A cell of the pool reads as it was last written. -/
theorem State.setCell_cell_self {c : Nat} (h : c < s.cells.length) (x : Cell) : (s.setCell c x).cell c = x := by
  simp [State.cell, h]

/-- Writing a cell leaves the others. -/
theorem State.setCell_cell_ne {c d : Nat} (h : d ≠ c) (x : Cell) : (s.setCell c x).cell d = s.cell d := by
  simp [State.cell, Ne.symm h]

/-- A place outside the pool is never written. -/
theorem State.setCell_outside {c : Nat} (h : s.cells.length ≤ c) (x : Cell) : s.setCell c x = s := by
  simp [State.setCell, List.set_eq_of_length_le h]

/-- Two writes of one cell are the second. -/
@[simp] theorem State.setCell_setCell (c : Nat) (x y : Cell) : (s.setCell c x).setCell c y = s.setCell c y := by
  simp [State.setCell]

/-- Two writes of one queue are the second. -/
@[simp] theorem State.setQueue_setQueue (q : QueueId) (x y : QueueCtx) :
    (s.setQueue q x).setQueue q y = s.setQueue q y := by
  simp [State.setQueue]

end Sys2Proof.Machine
end

