-- ==== Sys2Proof/Laws/Ops.lean ====
section
/-! SUPPORT. Everything each shared operation can do, said once: `op s` is `s` with the named fields taken from `op s`, so every
other field is that of `s`. What the named fields become is in the operation's own definition, or in a lemma beside it. -/

namespace Sys2Proof.Machine

/-! ### System Port -/

/-- An acceptance changes the offers and the channels of the port alone (R157). -/
theorem acceptOffer_eq (i : InitId) (s : State) :
    acceptOffer i s = { s with offers := (acceptOffer i s).offers, channels := (acceptOffer i s).channels } := by
  unfold acceptOffer
  repeat' split
  all_goals rfl

/-- A response changes the system port alone (R158, R159). -/
theorem respond_eq (i : InitId) (code : RespCode) (data : List Word) (s : State) :
    respond i code data s = s.port (respond i code data s) := by
  unfold respond; rw [acceptOffer_eq]; rfl

/-- What a response does to the system port (R157 to R159). -/
theorem respond_answered (i : InitId) (code : RespCode) (data : List Word) (s : State) :
    Answered i code data s (respond i code data s) := by
  have hself (l : List Accepted) : (s.channels.set i l)[i] = l := by simp
  unfold respond acceptOffer Answered
  simp only [hself, State.accepting, Config.channelDepth, Bool.and_eq_true, decide_eq_true_eq]
  split
  · rename_i h
    cases ho : s.offers[i] with
    | nil => simp
    | cons r rest => simp [Vector.set_set, decodeRequest, decodeHit, decodeMerge, State.hit, State.guardApplies, State.inArena,
        State.queue]
  · exact ⟨rfl, rfl, rfl, rfl⟩

/-- A FAULT response changes the system port and the fault log alone (R153, R159). -/
theorem respondFault_eq (kind : FaultKind) (i : InitId) (addr : Addr) (aperture : Option ApId) (queue : Option QueueId)
    (data : List Word) (s : State) :
    respondFault kind i addr aperture queue data s =
      ((s.port (respondFault kind i addr aperture queue data s)).appendRecord
        (s.faultRecord kind i addr aperture queue)) := by
  unfold respondFault State.record
  rw [respond_eq]
  unfold State.appendRecord State.faultRecord
  by_cases h : s.log.length < Config.logDepth <;> simp [h, State.port]

/-! ### Memory Port -/

/-- A presentation moves requests from the issue queue to the outstanding list alone (R163). -/
theorem present_eq (s : State) :
    present s = { s with issueQ := (present s).issueQ, outstanding := (present s).outstanding } := by
  unfold present
  repeat' split
  all_goals rfl

/-- Issuing a request changes the issue queue and the outstanding list alone (R163). -/
theorem issue_eq (r : MemReq) (s : State) :
    issue r s = { s with issueQ := (issue r s).issueQ, outstanding := (issue r s).outstanding } := by
  unfold issue; rw [present_eq]

/-- Removing an acknowledged request changes the issue queue and the outstanding list alone (R165). -/
theorem retireHead_eq (s : State) :
    retireHead s = { s with issueQ := (retireHead s).issueQ, outstanding := (retireHead s).outstanding } := by
  unfold retireHead; rw [present_eq]

/-- The request picked is one of the queue's, the others keep their order, it conflicts with nothing that came before it, and
everything before it was held (R163, R164). -/
theorem pickAllowed_eq_some {before : List MemReq} {queue : List MemReq} {r : MemReq} {rest : List MemReq}
    (h : pickAllowed before queue = some (r, rest)) :
    ∃ front back, queue = front ++ r :: back ∧ rest = front ++ back ∧
      (∀ e ∈ before ++ front, r.conflicts e = false) := by
  induction queue generalizing before rest with
  | nil => simp [pickAllowed] at h
  | cons x xs ih =>
    unfold pickAllowed at h
    split at h
    · split at h
      · rename_i y rest' hp
        cases h
        obtain ⟨front, back, rfl, rfl, hc⟩ := ih hp
        exact ⟨x :: front, back, rfl, rfl, by simpa [or_assoc] using hc⟩
      · cases h
    · rename_i hb
      cases h
      exact ⟨[], xs, rfl, rfl, by simpa using hb⟩

/-! ### Merge Unit -/

/-- Handing an access over changes the waiting list, the issue queue and the outstanding list alone (R138, R163). -/
theorem handOver_eq (r : MemReq) (s : State) :
    handOver r s =
      { s with waiting := (handOver r s).waiting, issueQ := (handOver r s).issueQ,
               outstanding := (handOver r s).outstanding } := by
  unfold handOver; split
  · rfl
  · rw [issue_eq]

/-- Settling the waiting list changes the MU's locks, waiters and beats and the memory port alone (R139). -/
theorem settleFrom_eq (kept ws : List Waiter) (s : State) :
    settleFrom kept ws s =
      { s with locks := (settleFrom kept ws s).locks, waiting := (settleFrom kept ws s).waiting,
               merges := (settleFrom kept ws s).merges, issueQ := (settleFrom kept ws s).issueQ,
               outstanding := (settleFrom kept ws s).outstanding } := by
  induction ws generalizing kept s with
  | nil => rfl
  | cons w ws ih =>
    cases w with
    | access r =>
      unfold settleFrom; split
      · exact ih _ _
      · have h := ih kept (issue r s)
        generalize settleFrom kept ws (issue r s) = t at h ⊢
        rw [issue_eq] at h; rw [h]
    | beat i word =>
      unfold settleFrom; split
      · exact ih kept (takeLock i word s)
      · exact ih _ _

theorem settleWaiters_eq (s : State) :
    settleWaiters s =
      { s with locks := (settleWaiters s).locks, waiting := (settleWaiters s).waiting,
               merges := (settleWaiters s).merges, issueQ := (settleWaiters s).issueQ,
               outstanding := (settleWaiters s).outstanding } := settleFrom_eq [] s.waiting s

/-- Releasing a lock changes the MU's locks, waiters and beats and the memory port alone (R137, R139). -/
theorem releaseLock_eq (i : InitId) (s : State) :
    releaseLock i s =
      { s with locks := (releaseLock i s).locks, waiting := (releaseLock i s).waiting,
               merges := (releaseLock i s).merges, issueQ := (releaseLock i s).issueQ,
               outstanding := (releaseLock i s).outstanding } := by
  unfold releaseLock; rw [settleWaiters_eq]

/-! ### Queue Engine -/

/-- An allocation takes the Free List head (R11). -/
theorem allocate_eq (q : QueueId) (origin : Option QueueId) (s : State) :
    (s.freeList = [] ∧ allocate q origin s = none) ∨
    ∃ c rest, s.freeList = c :: rest ∧
      allocate q origin s = some (c,
        { s with
            cells := s.cells.set c (Cell.opening q origin), freeList := rest,
            queues := s.queues.set q { s.queue q with openCount := (s.queue q).openCount + 1 } }) := by
  unfold allocate
  cases h : s.freeList with
  | nil => exact .inl ⟨rfl, rfl⟩
  | cons c rest => exact .inr ⟨c, rest, rfl, rfl⟩

/-- A composition write changes its cell and what the hand-over changes (R33, R34). -/
theorem composeWrite_eq (i : InitId) (r : Request) (a : QueueAccess) (target : QueueId) (c : Nat) (s : State) :
    composeWrite i r a target c s =
      { s with cells := (composeWrite i r a target c s).cells, waiting := (composeWrite i r a target c s).waiting,
               issueQ := (composeWrite i r a target c s).issueQ,
               outstanding := (composeWrite i r a target c s).outstanding } := by
  unfold composeWrite; rw [handOver_eq]; rfl

/-- A take read changes its cell and what the hand-over changes (R57). -/
theorem takeRead_eq (i : InitId) (r : Request) (a : QueueAccess) (c : Nat) (s : State) :
    takeRead i r a c s =
      { s with cells := (takeRead i r a c s).cells, waiting := (takeRead i r a c s).waiting,
               issueQ := (takeRead i r a c s).issueQ, outstanding := (takeRead i r a c s).outstanding } := by
  unfold takeRead; rw [handOver_eq]; rfl

/-- Parking takes a wait slot and the arrival list's tail (R91). -/
theorem park_eq (kind : HeldKind) (i : InitId) (r : Request) (a : QueueAccess) (wait : BitVec 16) (s : State) :
    park kind i r a wait s =
      { s with taken := (park kind i r a wait s).taken, slots := (park kind i r a wait s).slots,
               arrival := (park kind i r a wait s).arrival } := by
  unfold park; split <;> rfl

/-- An opening write allocates, binds and composes (R31). -/
theorem openWrite_eq (i : InitId) (r : Request) (a : QueueAccess) (target : QueueId) (origin : Option QueueId)
    (e : EntryId) (s : State) :
    openWrite i r a target origin e s =
      { s with cells := (openWrite i r a target origin e s).cells,
               freeList := (openWrite i r a target origin e s).freeList,
               queues := (openWrite i r a target origin e s).queues,
               putTable := (openWrite i r a target origin e s).putTable,
               waiting := (openWrite i r a target origin e s).waiting,
               issueQ := (openWrite i r a target origin e s).issueQ,
               outstanding := (openWrite i r a target origin e s).outstanding } := by
  obtain ⟨h, ha⟩ | ⟨c, rest, h, ha⟩ := allocate_eq target origin s
  · simp only [openWrite, ha]
  · simp only [openWrite, ha]; rw [composeWrite_eq]; rfl

/-- The fields a grant may change (R92, R93): the port and the log (an answer), the slot, and what an opening write changes. -/
def State.granted (s t : State) : State :=
  { s.port t with log := t.log, overflow := t.overflow, slots := t.slots, arrival := t.arrival, cells := t.cells,
                  freeList := t.freeList, queues := t.queues, putTable := t.putTable, waiting := t.waiting,
                  issueQ := t.issueQ, outstanding := t.outstanding }

theorem grant_eq (k : SlotId) (x : Slot) (s : State) : grant k x s = s.granted (grant k x s) := by
  unfold grant; dsimp only; split
  · rw [respondFault_eq, State.appendRecord_eq]; rfl
  · rw [openWrite_eq]; rfl

theorem State.granted_trans {s u t : State} (h : u = s.granted u) (h' : t = u.granted t) : t = s.granted t := by
  rw [h', h]; rfl

theorem grantLoop_eq (n : Nat) (s : State) : grantLoop n s = s.granted (grantLoop n s) := by
  induction n generalizing s with
  | zero => rfl
  | succ n ih =>
    unfold grantLoop; split
    · rfl
    · exact State.granted_trans (grant_eq _ _ s) (ih _)

/-- An offer of room changes only what its grants change (R92). -/
theorem offerRoom_eq (s : State) : offerRoom s = s.granted (offerRoom s) := by
  unfold offerRoom; split
  · rfl
  · exact grantLoop_eq _ s

/-- The fields a service may change (R95): the port and the log (an answer), the slot, the cell, the binding, the hand-over. -/
def State.served (s t : State) : State :=
  { s.port t with log := t.log, overflow := t.overflow, slots := t.slots, arrival := t.arrival, cells := t.cells,
                  takeTable := t.takeTable, waiting := t.waiting, issueQ := t.issueQ, outstanding := t.outstanding }

theorem serve_eq (k : SlotId) (x : Slot) (c : Nat) (s : State) : serve k x c s = s.served (serve k x c s) := by
  unfold serve; dsimp only; split
  · rw [respondFault_eq, State.appendRecord_eq]; rfl
  · unfold bindTake; rw [takeRead_eq]; rfl

theorem State.served_trans {s u t : State} (h : u = s.served u) (h' : t = u.served t) : t = s.served t := by
  rw [h', h]; rfl

theorem serveLoop_eq (q : QueueId) (n : Nat) (s : State) : serveLoop q n s = s.served (serveLoop q n s) := by
  induction n generalizing s with
  | zero => rfl
  | succ n ih =>
    unfold serveLoop; split
    · exact State.served_trans (serve_eq _ _ _ s) (ih _)
    · rfl

/-- An offer of availability changes only what its services change (R95). -/
theorem serveTakes_eq (q : QueueId) (s : State) : serveTakes q s = s.served (serveTakes q s) := serveLoop_eq q _ s

/-- Appending cells to the Free List changes the Cell Table and the Free List alone (R10). -/
theorem appendFree_foldl_eq (cells : List Nat) (s : State) :
    cells.foldl (fun s c => appendFree c s) s =
      { s with cells := (cells.foldl (fun s c => appendFree c s) s).cells, freeList := s.freeList ++ cells } := by
  induction cells generalizing s with
  | nil => simp
  | cons c cs ih =>
    rw [List.foldl_cons, ih]
    simp [appendFree, State.setCell]

/-- The completion of a flush changes what a grant changes, the take bindings and the MLC's pending command (R111). -/
theorem completeFlush_eq (q : QueueId) (s : State) :
    completeFlush q s =
      { s.granted (completeFlush q s) with
          takeTable := mapTable (Option.map (voidTake q)) s.takeTable, pendingCmd := s.pendingCmd.completed } := by
  unfold completeFlush
  dsimp only
  rw [offerRoom_eq, appendFree_foldl_eq]
  rfl

/-- The fields the completion of a flush may change (R111): those of a grant, the take bindings and the pending command. -/
def State.flushedTo (s t : State) : State :=
  { s.granted t with takeTable := t.takeTable, pendingCmd := t.pendingCmd }

theorem State.flushedTo_trans {s u t : State} (h : u = s.flushedTo u) (h' : t = u.flushedTo t) : t = s.flushedTo t := by
  rw [h', h]; rfl

/-- The test of a flush changes only what a completion changes (R110). -/
theorem tryFlush_eq (q : QueueId) (s : State) : tryFlush q s = s.flushedTo (tryFlush q s) := by
  unfold tryFlush; split
  · rw [completeFlush_eq]; rfl
  · rfl

/-- The end of the reset drain changes the drain and what the completion of a flush changes (R25, steps 8 and 9). -/
theorem endDrain_eq (s : State) : endDrain s = { s.flushedTo (endDrain s) with drain := false } := by
  suffices h : ∀ (qs : List QueueId) (u : State),
      qs.foldl (fun s q => tryFlush q s) u = u.flushedTo (qs.foldl (fun s q => tryFlush q s) u) by
    have h := h upTo16 { s with drain := false }
    unfold endDrain
    generalize upTo16.foldl (fun s q => tryFlush q s) { s with drain := false } = t at h ⊢
    exact h
  intro qs
  induction qs with
  | nil => intro u; rfl
  | cons q qs ih => intro u; exact State.flushedTo_trans (tryFlush_eq q u) (ih _)

/-- Outside a drain that awaits nothing, the end of the drain is not taken (R25). -/
theorem settleDrain_cases (s : State) :
    (s.drain = true ∧ s.drained = true ∧ settleDrain s = endDrain s) ∨
    ((s.drain = false ∨ s.drained = false) ∧ settleDrain s = s) := by
  unfold settleDrain
  by_cases h : s.drain = true <;> by_cases h' : s.drained = true <;> simp [h, h']

/-- Releasing a pin changes the Cell Table and the Free List alone (R9). -/
theorem releasePin_eq (c : Nat) (s : State) :
    (releasePin c s).1 =
      { s with cells := (releasePin c s).1.cells, freeList := (releasePin c s).1.freeList } := by
  unfold releasePin; dsimp only
  repeat' split
  all_goals rfl

/-- A drop is counted, flagged, answered, and absorbed by a PHANTOM binding unless it is closing (R72). -/
theorem dropWrite_eq (i : InitId) (r : Request) (a : QueueAccess) (e : EntryId) (s : State) :
    dropWrite i r a e s =
      { s.port (dropWrite i r a e s) with
          queues := s.queues.set a.queue { s.queue a.queue with lost := satInc (s.queue a.queue).lost },
          flags := s.flags.set a.queue { s.flags[a.queue] with lost := true },
          putTable := if a.closing r.body.count then s.putTable
            else s.putTable.set e
              (some { init := i, origin := a.queue, target := a.queue, state := .phantom }) } := by
  unfold dropWrite; dsimp only; split <;> rw [respond_eq] <;> rfl

/-! ### Wait Unit: expiry -/

/-- The fields an expiry may change (R97, R98): the port and the log (an answer), the slot, the counters and flags of its
queue, and the binding of a dropped write. -/
def State.expiredTo (s t : State) : State :=
  { s.port t with log := t.log, overflow := t.overflow, slots := t.slots, arrival := t.arrival, queues := t.queues,
                  flags := t.flags, putTable := t.putTable }

theorem expire_eq (k : SlotId) (x : Slot) (s : State) : expire k x s = s.expiredTo (expire k x s) := by
  unfold expire; split
  · unfold expireTake; dsimp only
    generalize hu : (((s.vacate k).raiseUnderrun x.queue).raiseExpired x.queue) = u
    have h := respond_eq x.init .ok (x.req.body.fill ((s.vacate k).queue x.queue).config.emptyPattern) u
    generalize respond _ _ _ u = t at h ⊢
    subst hu; rw [h]; cases s; rfl
  · unfold expirePut; dsimp only; split
    · rw [respondFault_eq, State.appendRecord_eq]; rfl
    · rw [dropWrite_eq]; rfl

theorem State.expiredTo_trans {s u t : State} (h : u = s.expiredTo u) (h' : t = u.expiredTo t) : t = s.expiredTo t := by
  rw [h', h]; rfl

/-- The expiries of one advance change only what each of them changes (R87). -/
theorem expireDue_eq (order : List SlotId) (s : State) : expireDue order s = s.expiredTo (expireDue order s) := by
  induction order generalizing s with
  | nil => rfl
  | cons k ks ih =>
    have h := ih (match s.slots[k] with
      | some x => if s.due x then expire k x s else s
      | none => s)
    refine State.expiredTo_trans ?_ h
    repeat' split
    · exact expire_eq _ _ s
    · rfl
    · rfl

/-! ### Management link -/

/-- Link clocks change the log of MDO's bits alone (R168). -/
theorem State.sendMdo_eq (s : State) (clocks : Nat) : s.sendMdo clocks = { s with mdoSent := (s.sendMdo clocks).mdoSent } :=
  rfl

/-- Bytes clocked after the command change the log of MDO's bits and what remains of the reply alone (R170). -/
theorem clockBytes_eq (n : Nat) (left : List Byte) (s : State) :
    clockBytes n left s = { s with mdoSent := (clockBytes n left s).mdoSent, frame := .responding (left.drop n) } := rfl

/-- In the trailing phase MDO is zero (R170). -/
theorem Frame.mdo_trailing (clocks : Nat) : (Frame.responding []).mdo clocks = false := by simp [Frame.mdo]

end Sys2Proof.Machine
end

