-- ==== Sys2Proof/Tests/Slice0.lean ====
section
/-! SUPPORT. Tests by hand: the well-formedness smoke, the bytes of link frames written out from sections 13.1 to 13.3, single
steps whose expected results come from the rules named beside them, and a witness for the hypotheses of each statement. -/

open Sys2Proof Sys2Proof.Machine

namespace Sys2Proof.Tests

/-! ### WellFormed: each check refuses an ill-formed term -/

theorem test_wf_no_beats : (Instr.requestAccept 0 (some { addr := 0#40, body := .read 0 })).wf = false := by decide
theorem test_wf_most_beats : (Instr.requestAccept 0 (some { addr := 0#40, body := .read 16 })).wf = true := by decide
theorem test_wf_too_many_beats : (Instr.requestAccept 0 (some { addr := 0#40, body := .read 17 })).wf = false := by decide
theorem test_wf_ack_empty : (Instr.closingWriteAck []).wf = false := by decide
theorem test_wf_ack_too_long :
    (Instr.passThroughAck (List.replicate 17 { error := false, data := 0#64 })).wf = false := by decide
theorem test_wf_beat_ack_long :
    (Instr.mergeBeatReadAck (List.replicate 2 { error := false, data := 0#64 })).wf = false := by decide
theorem test_wf_known_code : (Instr.unknownCommand 0x24#8).wf = false := by decide
theorem test_wf_unknown_code : (Instr.unknownCommand 0x28#8).wf = true := by decide

/-! ### Frames, byte by byte (sections 13.1 to 13.3), and the bits of a byte (R168) -/

theorem test_frame_identify : decodeFrame [0x01#8] = some .identify := by decide
theorem test_frame_flush : decodeFrame [0x24#8, 0x05#8] = some (.queueFlush 0x05#8) := by decide
theorem test_frame_flush_short : decodeFrame [0x24#8] = none := by decide
theorem test_frame_bytes_after : decodeFrame [0x32#8, 0xAA#8] = some .steerOn := by decide
theorem test_frame_unknown : decodeFrame [0x28#8, 0x00#8] = some (.unknownCommand 0x28#8) := by decide
theorem test_frame_events_clear : decodeFrame [0x27#8, 0x0F#8, 0x11#8] = some (.eventsClear 0x0F#8 0x11#8) := by decide
/-- Base 12_3456_0000h, 64 cells, guard on: least significant byte first. -/
theorem test_frame_pool_config :
    decodeFrame [0x30#8, 0x00#8, 0x00#8, 0x54#8, 0x34#8, 0x12#8, 0x40#8, 0x00#8, 0x01#8] =
      some (.poolConfig 0x1234540000#40 64#16 0x01#8) := by decide
theorem test_frame_tick_config : decodeFrame [0x31#8, 0xE7#8, 0x03#8] = some (.tickConfig 999#16) := by decide
theorem test_frame_aperture_write :
    decodeFrame [0x11#8, 0x02#8, 0x00#8, 0x01#8, 0x00#8, 0x20#8, 0x01#8, 0x08#8, 0x02#8, 0xFF#8, 0x03#8, 0x34#8, 0x12#8,
      0x04#8, 0x88#8, 0x77#8, 0x66#8, 0x55#8, 0x44#8, 0x33#8, 0x22#8, 0x11#8, 0x00#8, 0x10#8, 0x00#8, 0x00#8, 0x40#8] =
      some (.apertureWrite 0x02#8
        { base := 0x0120000100#40, sizeExp := 0x08#8, kind := 0x02#8, permitted := 0xFF#8, queue := 0x03#8,
          reported := 0x1234#16, operation := 0x04#8, mask := 0x1122334455667788#64,
          targetBase := 0x4000001000#40 }) := by decide
theorem test_frame_queue_config_write :
    decodeFrame [0x21#8, 0x04#8, 0x03#8, 0x00#8, 0x04#8, 0x02#8, 0xFF#8, 0x01#8, 0xEF#8, 0xCD#8, 0xAB#8, 0x89#8, 0x67#8,
      0x45#8, 0x23#8, 0x01#8, 0x0A#8, 0x00#8, 0x14#8, 0x01#8, 0x00#8, 0x02#8, 0x01#8, 0x3F#8] =
      some (.queueConfigWrite 0x04#8
        { cellLen := 0x03#8, limit := 1024#16, policy := 0x02#8, divertTarget := 0xFF#8, report := 0x01#8,
          emptyPattern := 0x0123456789ABCDEF#64, takeWait := 10#16, putWait := 0x0114#16, watermark := 512#16,
          line := 0x01#8, eventMask := 0x3F#8 }) := by decide
/-- Most significant bit first (R168): 24h is 0010 0100. -/
theorem test_bits_of_byte :
    bytesOfBits 1 [false, false, true, false, false, true, false, false] = [0x24#8] := by decide
theorem test_bits_incomplete : bytesOfBits 1 [false, false, true, false, false, true, false] = [] := by decide

/-! ### Helpers -/

/-- A one-beat write with every strobe set. -/
def wr (d : Word) : Request := { addr := 0x1000#40, body := .write [{ data := d, strobes := 0xFF#8 }] }

/-- A one-beat read. -/
def rd : Request := { addr := 0x1000#40, body := .read 1 }

/-- One response beat without an error. -/
def good : List MemBeat := [{ error := false, data := 7#64 }]

/-- One response beat with an error. -/
def bad : List MemBeat := [{ error := true, data := 0#64 }]

/-- The access at word w of a window of queue 0, whose cell length is 2. -/
def at2 (w : Window) (word : Nat) : QueueAccess := { queue := 0, window := w, first := word, aperture := 3, cellLen := 1 }

/-- A queue of cell length 2 and Limit 2, ENABLED, with empty pattern EEh. -/
def q2 : QueueCtx :=
  { QueueCtx.initial with
      config := { QueueConfig.initial with cellLen := 1, limit := 2, emptyPattern := 0xEE#64, report := true },
      state := .rest .enabled }

/-- A QUEUED or TAKEN cell of queue 0. -/
def msg (k : CellState) : Cell :=
  { Cell.freed with state := k, owner := some 0, sequence := some 0#16, complete := true }

/-- An OPEN cell of queue 0 with word 0 written. -/
def opn : Cell := { Cell.opening 0 none with written := some 1#32 }

/-- Steering ON, a pool of cells, and queue 0. -/
def part (x : QueueCtx) (cells : List Cell) (free : List Nat) : State :=
  { State.reset with
      steering := .on, poolSize := cells.length, cells := cells, freeList := free,
      queues := State.reset.queues.set 0 x }

/-- Initiator 0's current request with its decode, taken by its block or not. -/
def asking (taken : Bool) (r : Request) (d : Decoded) (s : State) : State :=
  { s with channels := s.channels.set 0 [{ req := r, decoded := d }], taken := s.taken.set 0 taken }

/-- A memory request outstanding alone. -/
def awaiting (m : MemReq) (s : State) : State := { s with outstanding := [m] }

/-- The memory request of a cell access by initiator 0 on cell 0 of queue 0. -/
def cellReq (r : Request) (use : CellUse) (fate : Fate) : MemReq :=
  { addr := 0x0#40, body := r.body, fate := fate,
    owner := .cell { init := 0, cell := 0, queue := 0, use := use, pattern := 0xEE#64 } }

/-- Initiator 0's request on cell 0, performed and awaiting its acknowledgement. -/
def performing (r : Request) (w : Window) (word : Nat) (use : CellUse) (s : State) : State :=
  awaiting (cellReq r use .live) (asking true r (.queue (at2 w word)) s)

/-- The access that `performing` is waiting for. -/
def cellUse (use : CellUse) : CellAccess := { init := 0, cell := 0, queue := 0, use := use, pattern := 0xEE#64 }

/-- A held request of initiator 0 on queue 0. -/
def held (kind : HeldKind) (r : Request) (deadline : BitVec 32) : Slot :=
  { queue := 0, kind := kind, init := 0, req := r, access := at2 (if kind = .put then .put else .take) 0,
    deadline := deadline }

/-- That request in slot k, alone. -/
def holding (k : SlotId) (x : Slot) (s : State) : State :=
  asking true x.req (.queue x.access) { s with slots := s.slots.set k (some x), arrival := [k] }

/-- Select is asserted, and the frame's command and arguments have just been received. -/
def onLink (s : State) : State := { s with select := true, frame := .receiving }

/-- The part after PWR_RESET with a frame received. -/
def linked : State := onLink State.reset

/-- A frame whose command has been carried out, with these bytes left to send. -/
def answering (left : List Byte) : State := { State.reset with select := true, frame := .responding left }

/-- The put binding of initiator 0 on queue 0, in entry 0. -/
def putBound (k : PutState) (s : State) : State :=
  s.setPut 0 (some { init := 0, origin := 0, target := 0, state := k })

/-- The take binding of initiator 0 on queue 0, in entry 0. -/
def takeBound (k : TakeState) (s : State) : State := s.setTake 0 (some { init := 0, queue := 0, state := k })

/-- A merge write of one beat by initiator 0, its beat at a stage. -/
def merging (op : MergeOp) (stage : BeatStage) (s : State) : State :=
  (asking true (wr 5#64) (.merge op 0xFF#64 0x2000#40 4) s).setMerge 0 (some { beat := 0, stage := stage })

/-- The memory request of that beat. -/
def beatReq (owner : Owner) : MemReq := { addr := 0x2000#40, body := .read 1, owner := owner, fate := .live }

/-- The state after a command. -/
def after (c : Instr) (s : State) : State :=
  match exec c s with
  | .next t => t
  | .fault _ => s
  | .refused _ => s

/-! ### Single steps -/

/-- R31: an opening write takes the Free List head. -/
theorem test_opening_write :
    let t := after (.putWindowWrite 0) (asking false (wr 1#64) (.queue (at2 .put 0))
      (part q2 [Cell.freed, Cell.freed, Cell.freed] [2, 0, 1]))
    t.freeList = [0, 1] ∧ (t.cell 2).state = .opened ∧ (t.queue 0).openCount = 1 ∧ t.outstanding.length = 1 := by
  decide

/-- R1: word 1 of cell 2 lies 264 bytes above the arena base. -/
theorem test_word_address :
    let t := after (.putWindowWrite 0) (asking false (wr 1#64) (.queue (at2 .put 1))
      { part q2 [Cell.freed, Cell.freed, Cell.freed] [2, 0, 1] with arenaBase := 0x40000#40 })
    t.outstanding.map MemReq.addr = [0x40208#40] := by decide

/-- R72: a drop counts the loss and makes a PHANTOM binding. -/
theorem test_drop :
    let t := after (.putWindowWrite 0) (asking false (wr 1#64) (.queue (at2 .put 0)) (part q2 [Cell.freed] []))
    (t.queue 0).lost = 1#16 ∧ t.putTable[0] = some { init := 0, origin := 0, target := 0, state := .phantom } := by
  decide

/-- R85: with Report on, a dropped closing write is answered FAIL and leaves no binding. -/
theorem test_drop_closing :
    let t := after (.putWindowWrite 0) (asking false (wr 1#64) (.queue (at2 .put 1)) (part q2 [Cell.freed] []))
    t.responses = [{ init := 0, code := .fail, data := [] }] ∧ t.putTable[0] = none := by decide

/-- R38: the commit gives the cell its sequence and the complete flag by its words. -/
theorem test_commit_incomplete :
    let t := after (.closingWriteAck good) (performing (wr 1#64) .put 1 (.compose true)
      (putBound (.active 0) (part { q2 with openCount := 1, nextSeq := 9#16 }
        [{ opn with written := some 2#32, inFlight := 1 }] [])))
    (t.cell 0).sequence = some 9#16 ∧ (t.cell 0).complete = false ∧ (t.queue 0).committed = [0] ∧
      (t.queue 0).nextSeq = 10#16 ∧ t.flags[0].ready = true := by decide

/-- R38: every word written makes the message complete. -/
theorem test_commit_complete :
    ((after (.closingWriteAck good) (performing (wr 1#64) .put 1 (.compose true)
      (putBound (.active 0) (part { q2 with openCount := 1 }
        [{ opn with written := some 3#32, inFlight := 1 }] [])))).cell 0).complete = true := by decide

/-- R42: an error on the closing write discards the cell and makes a MEMORY record. -/
theorem test_discard :
    let t := after (.closingWriteAck bad) (performing (wr 1#64) .put 1 (.compose true)
      (putBound (.active 0) (part { q2 with openCount := 1 } [{ opn with inFlight := 1 }] [])))
    t.freeList = [0] ∧ t.log.map FaultRecord.kind = [.memory] ∧ (t.queue 0).openCount = 0 := by decide

/-- R54: a first take binds the first QUEUED cell in list order. -/
theorem test_first_take :
    let t := after (.takeWindowRead 0) (asking false rd (.queue (at2 .take 0))
      (part { q2 with committed := [1, 0] } [msg .queued, msg .taken] []))
    t.takeTable[0] = some { init := 0, queue := 0, state := .active 0 } ∧ (t.cell 0).state = .taken := by decide

/-- R56: an empty queue with take wait 0 answers the empty pattern and counts an underrun. -/
theorem test_empty_take :
    let t := after (.takeWindowRead 0) (asking false rd (.queue (at2 .take 0)) (part q2 [Cell.freed] [0]))
    t.responses = [{ init := 0, code := .ok, data := [0xEE#64] }] ∧ (t.queue 0).underrun = 1#16 := by decide

/-- R61: the retirement frees an unpinned cell. -/
theorem test_retire :
    let t := after (.closingReadAck good) (performing rd .take 1 (.take true)
      (takeBound (.active 0) (part { q2 with committed := [0] } [{ msg .taken with inFlight := 1 }] [])))
    t.freeList = [0] ∧ (t.queue 0).committed = [] ∧ t.takeTable[0] = none := by decide

/-- R61: a pinned cell stays TAKEN outside the list and is still held by its queue. -/
theorem test_retire_pinned :
    let t := after (.closingReadAck good) (performing rd .take 1 (.take true)
      (takeBound (.active 0) (part { q2 with committed := [0] } [{ msg .taken with inFlight := 1, pins := 1 }] [])))
    t.freeList = [] ∧ (t.queue 0).committed = [] ∧ t.holding 0 = 1 := by decide

/-- R9: the last pin of a retired cell frees it. -/
theorem test_last_pin :
    (after (.peekAck good) (performing rd .peek 0 .peek
      (part q2 [{ msg .taken with pins := 1 }] []))).freeList = [0] := by decide

/-- R63: RETURN gives the message back to its place. -/
theorem test_return :
    let t := after (.returnWord 0) (asking false (wr 0#64) (.queue (at2 .control 3))
      (takeBound (.active 0) (part { q2 with committed := [0] } [msg .taken] [])))
    (t.cell 0).state = .queued ∧ t.takeTable[0] = none ∧ t.flags[0].ready = true := by decide

/-- R47: ABANDON gives the cell back. -/
theorem test_abandon :
    let t := after (.abandon 0) (asking false (wr 0#64) (.queue (at2 .control 2))
      (putBound (.active 0) (part { q2 with openCount := 1 } [opn] [])))
    t.freeList = [0] ∧ (t.queue 0).openCount = 0 ∧ t.putTable[0] = none := by decide

/-- R66: TAG of a complete message with sequence 0 and no origin. -/
theorem test_tag_word :
    (after (.controlPageRead 0) (asking false rd (.queue (at2 .control 1))
      (takeBound (.active 0) (part { q2 with committed := [0] } [msg .taken] [])))).responses =
      [{ init := 0, code := .ok, data := [5#64] }] := by decide

/-- R122: a refusal is answered FAULT with zero data and one record. -/
theorem test_ad_refusal :
    let t := after (.adRefusalAnswer 0) (asking false rd (.refused .misalign (some 3) none) State.reset)
    t.responses = [{ init := 0, code := .fault, data := [0#64] }] ∧ t.log.map FaultRecord.kind = [.misalign] := by
  decide

/-- R162: an erring pass-through beat carries zero and makes no record. -/
theorem test_pass_through_error :
    let t := after (.passThroughAck bad) (awaiting { addr := 0x1000#40, body := .read 1, owner := .passThrough 0, fate := .live }
      (asking true rd .passThrough State.reset))
    t.responses = [{ init := 0, code := .fault, data := [0#64] }] ∧ t.log = [] := by decide

/-- R129: no queue READY and an empty log: only the none bit. -/
theorem test_summary_none :
    (after (.summaryRead 0) (asking false rd (.summary 0xFFFF#16 2) State.reset)).responses =
      [{ init := 0, code := .ok, data := [0x1000000#64] }] := by decide

/-- R135: ADD wraps inside the word, and the mask then selects the bits kept. -/
theorem test_merge_add : mergeValue .add 0xFF#64 0x02#64 0xFF#64 = 0x01#64 := by decide
/-- R135: FLIP under a mask. -/
theorem test_merge_flip : mergeValue .flip 0xF0#64 0xFF#64 0x0F#64 = 0xFF#64 := by decide
/-- R135: the effective mask follows the strobes. -/
theorem test_effective_mask : effectiveMask 0x1234#64 0x01#8 = 0x34#64 := by decide

/-- R133: a merge read loads the latch with its last beat. -/
theorem test_merge_read_latch :
    (after (.mergeReadAck good) (awaiting { addr := 0x2000#40, body := .read 1, owner := .mergeRead 0, fate := .live }
      (asking true rd (.merge .set 0xFF#64 0x2000#40 4) State.reset))).latches[0] =
      { valid := true, addr := 0x2000#40, value := 7#64 } := by decide

/-- R135: a COND that fails answers FAIL and writes nothing. -/
theorem test_cond_fails :
    let t := after (.mergeBeatReadAck good) (awaiting (beatReq (.beatRead 0)) (merging .cond .reading State.reset))
    t.responses = [{ init := 0, code := .fail, data := [] }] ∧ t.outstanding = [] := by decide

/-- R97: an expired take is answered empty, counting underrun and expired. -/
theorem test_take_expires :
    let t := after (.heldTakeExpiry 0) (holding 0 (held .take rd 0#32) (part q2 [] []))
    t.responses = [{ init := 0, code := .ok, data := [0xEE#64] }] ∧ (t.queue 0).expired = 1#16 ∧ t.arrival = [] := by
  decide

/-- R87: the tick count wraps. -/
theorem test_tick_wraps :
    (after .tickAdvance { State.reset with tickCount := 0xFFFFFFFF#32 }).tickCount = 0#32 := by decide

/-- R92: a flush completion's room is granted to a held put of another queue. -/
theorem test_flush_grants :
    let t := after (.flushCompletion 1)
      { holding 2 (held .put (wr 1#64) 9#32) (part q2 [{ msg .queued with owner := some 1 }] []) with
          queues := (State.reset.queues.set 0 q2).set 1
            { QueueCtx.initial with state := .flushing .enabled, committed := [0] },
          pendingCmd := .pending 1 }
    t.slots[2] = none ∧ (t.cell 0).owner = some 0 ∧ t.pendingCmd = .complete 1 := by decide

/-- R25: SYS_RESET frees an OPEN cell and puts a TAKEN one back, and the drain is set while its read is unacknowledged. -/
theorem test_sys_reset :
    let t := after .sysResetAssert (putBound (.active 1) (takeBound (.active 0)
      (performing rd .take 0 (.take false)
        (part { q2 with committed := [0], openCount := 1 } [{ msg .taken with inFlight := 1 }, opn] []))))
    t.freeList = [1] ∧ (t.cell 0).state = .queued ∧ (t.queue 0).openCount = 0 ∧ t.drain = true := by
  decide +kernel

/-- R108: with N 0 a flush completes at its start, after a SYS_RESET too: the drain awaits nothing. -/
theorem test_flush_after_sys_reset :
    let t := after (.queueFlush 0x00#8) (after .sysResetAssert linked)
    t.drain = false ∧ t.frame = .responding [0x00#8] ∧ t.pendingCmd = .complete 0 := by
  decide +kernel

/-- R25, R110: the last acknowledgement that the drain awaits ends it and completes the pending flush. -/
theorem test_drain_ends :
    let t := after (.discardedAck good) (awaiting (cellReq rd (.take true) .discarded)
      { part { q2 with state := .flushing .enabled, committed := [0] } [{ msg .queued with inFlight := 1 }] [] with
          drain := true, pendingCmd := .pending 0 })
    t.drain = false ∧ t.freeList = [0] ∧ t.pendingCmd = .complete 0 ∧ (t.queue 0).state = .rest .enabled := by
  decide +kernel

/-- R179: POOL_CONFIG is DENIED while steering is ON. -/
theorem test_pool_denied :
    (after (.poolConfig 0#40 16#16 0#8) (onLink { State.reset with steering := .on })).frame = .responding [0x03#8] := by
  decide

/-- R2: the pool is rebuilt with every cell in the Free List in ascending order. -/
theorem test_pool_built :
    (after (.poolConfig 0#40 16#16 0#8) (onLink State.reset)).freeList =
      [0, 1, 2, 3, 4, 5, 6, 7, 8, 9, 10, 11, 12, 13, 14, 15] := rfl

/-- R174: the IDENTIFY reply. -/
theorem test_identify :
    (after .identify (onLink State.reset)).frame =
      .responding [0x00#8, 0x35#8, 0x0A#8, 0x16#8, 0x00#8, 0x01#8, 8#8, 16#8, 16#8, 16#8, 16#8, 8#8, 4#8, 8#8, 0x00#8,
        0x04#8, 0x00#8] := rfl

/-- On an empty queue one part clock passes (log 9), which ends a tick of one clock (R87). -/
theorem test_idle_step : ∃ t, step State.reset = .next t ∧ t.tickCount = 1#32 := ⟨_, rfl, by decide⟩

/-- R87: the advance that reaches the deadline makes the held take expire. -/
theorem test_tick_expires :
    let t := after .tickAdvance (holding 0 (held .take rd 1#32) (part q2 [] []))
    t.responses = [{ init := 0, code := .ok, data := [0xEE#64] }] ∧ t.arrival = [] ∧ (t.queue 0).expired = 1#16 := by
  decide

/-- R168: a select that PWR_RESET finds asserted starts no frame; released and asserted again it does. -/
theorem test_select_after_reset :
    let s := after .pwrResetRelease (after .pwrResetAssert linked)
    (after .frameStart s).frame = .outside ∧ (after .frameStart (after .frameEnd s)).frame = .receiving := by decide

/-- R168, R170: the host ends the frame of an answer BADCMD, 05h, sent most significant bit first. -/
theorem test_frame_end_bits :
    let t := after .frameEnd (after (.unknownCommand 0xFF#8) linked)
    t.mdoSent = [false, false, false, false, false, true, false, true] ∧ t.frame = .outside := by decide

/-- R170: a cut loses the rest of the reply; in the trailing phase there is nothing to cut, and MDO is zero. -/
theorem test_response_cut :
    (after .responseCut (answering [0x00#8, 0x35#8])).mdoSent = [] ∧ after .responseCut (answering []) = answering [] ∧
      (answering []).frame.mdo 0 = false := by decide

/-! ### Witnesses: concrete states and operands that meet the hypotheses of each statement

The part after PWR_RESET meets those that ask for nothing else. `linked` has received a frame whole. -/

theorem linked_ready : linked.linkReady := ⟨rfl, by decide⟩

/-- With a frame received, no flush is pending unless one is. -/
theorem onLink_ready {s : State} (h : s.pendingCmd = .idle) : (onLink s).linkReady :=
  ⟨rfl, fun q hq => by simp [onLink, h] at hq⟩

/-- Initiator 0's request to a window of queue 0 may be taken. -/
theorem turn (w : Window) (word : Nat) (r : Request) {s : State} (hd : s.drain = false)
    (hl : (s.queue 0).config.cellLen = 1) :
    WindowTurn w (asking false r (.queue (at2 w word)) s) 0 r (at2 w word) :=
  ⟨hd, ⟨by simp [asking], by simp [asking]⟩, rfl, hl⟩

/-- Initiator 0's request is current. -/
theorem current (r : Request) (d : Decoded) (s : State) : Current (asking false r d s) 0 r d :=
  ⟨by simp [asking], by simp [asking]⟩

/-- The acknowledgement of a performed access of initiator 0 is next. -/
theorem cell_ack (r : Request) (w : Window) (word : Nat) (use : CellUse) (s : State) (beats : List MemBeat)
    (hb : beats.length = r.body.count) :
    CellAcknowledges (performing r w word use s) (cellUse use) r (at2 w word) beats :=
  ⟨⟨cellReq r use .live, ⟨rfl, rfl, hb⟩, rfl⟩, by simp [performing, awaiting, asking, cellUse],
    by simp [performing, awaiting, asking, cellUse]⟩

/-- TicksAdvance: a held request that stays; one that the advance makes expire, with no command waiting; two of two initiators,
one named by the command behind the advance; and the last clock of the longest tick. -/
theorem witness_TicksAdvance :
    (let s := holding 0 (held .take rd 5#32) (part q2 [] [])
     s.pwrReset = false ∧ ∀ k ∈ s.arrival, ∀ x, s.slots[k] = some x → x.deadline ≠ s.tickCount + 1#32) ∧
    (let s := holding 7 (held .take rd 1#32) (part q2 [] [])
     s.pwrReset = false ∧ s.pending = [] ∧
       ({ s with tickCount := s.tickCount + 1#32 } : State).dueHeld .take 0 = some (7, held .take rd 1#32) ∧
       ∀ j ∈ s.arrival, j = 7) ∧
    (let s := { holding 7 (held .take rd 1#32) (part q2 [] []) with
                  slots := (State.reset.slots.set 7 (some (held .take rd 1#32))).set 0
                    (some { held .put (wr 1#64) 1#32 with init := 1 }),
                  arrival := [7, 0], pending := [.heldPutExpiry 1, .status] }
     s.pwrReset = false ∧ s.pending = [.heldPutExpiry 1] ++ [.status] ∧
       (∀ j ∈ s.arrival, ∀ k ∈ s.arrival, (s.slots[j]).map Slot.init = (s.slots[k]).map Slot.init → j = k)) ∧
    (let s := { State.reset with tickInterval := 65536, tickElapsed := 65535 }
     s.pending = [] ∧ s.pwrReset = false ∧ s.tickElapsed < s.tickInterval) := by
  refine ⟨⟨rfl, ?_⟩, ⟨rfl, rfl, rfl, by decide⟩, ⟨rfl, rfl, by decide⟩, rfl, rfl, by decide⟩
  intro k hk x hx
  obtain rfl : k = 0 := by simpa [holding, asking] using hk
  simp [holding, asking, held] at hx
  subst hx
  decide

/-- NotifiedKept, CapacitiesAndOrderKept, IdleAndPendingKept: the part after PWR_RESET, which steps. -/
theorem witness_invariants :
    Notified State.reset ∧ Bounded State.reset ∧ Apart State.reset ∧ Settled State.reset ∧ OffIsIdle State.reset ∧
      FlushIsPending State.reset ∧ NoneOverdue State.reset ∧ FramesSelected State.reset ∧
      ∃ t, step State.reset = .next t := by
  refine ⟨?_, ?_, ⟨.nil, .nil⟩, ?_, ?_, ?_, ?_, ?_, _, rfl⟩
  · unfold Notified; decide
  · unfold Bounded; decide
  · intro b w a h; simp [State.reset] at h
  · unfold OffIsIdle; decide
  · unfold FlushIsPending; decide
  · intro k hk; simp [State.reset] at hk
  · intro h; simp [State.reset] at h

/-- The part after PWR_RESET holds no cell. -/
theorem reset_cell (c : Nat) : State.reset.cell c = Cell.freed := rfl

/-- Every queue is in its initial context after PWR_RESET. -/
theorem reset_queue (q : QueueId) : State.reset.queue q = QueueCtx.initial := by simp [State.reset, State.queue]

/-- No memory request is under way after PWR_RESET. -/
theorem reset_requests : State.reset.requests = [] := rfl

/-- The request that `holding` puts in a slot of an empty Wait Unit is the only one held. -/
theorem holding_only {k : SlotId} {x : Slot} {s : State} (hs : s.slots = State.reset.slots) {j : SlotId} {y : Slot}
    (h : (holding k x s).slots[j] = some y) : y = x := by
  by_cases hk : k.val = j.val
  · simpa [holding, asking, hk, eq_comm] using h
  · simp [holding, asking, hs, State.reset, hk] at h

/-- AccountingKept, HeldRequestsGranted: no queue after PWR_RESET holds more than its Limit, and no request is held; a held put
on a full queue; a held take on an empty one. -/
theorem witness_limits :
    WithinLimits State.reset ∧ HeldWait State.reset ∧ HeldWait (holding 0 (held .put (wr 1#64) 9#32) (part q2 [] [])) ∧
      HeldWait (holding 7 (held .take rd 9#32) (part q2 [] [])) := by
  refine ⟨?_, ?_, ?_, ?_⟩
  · unfold WithinLimits; decide
  · intro k x h; simp [State.reset] at h
  · intro k x h; rw [holding_only rfl h]; decide
  · intro k x h; rw [holding_only rfl h]; decide

/-- ResetState, AccountingKept, FlushStarts: the accounting holds after PWR_RESET, where N is 0. -/
theorem witness_AccountingKept : Accounted State.reset := by
  refine ⟨?_, ?_, ?_, ?_, by unfold OffIsIdle; decide⟩ <;> constructor <;>
    (try simp only [PutActive, TakeActive, reset_cell, reset_queue, reset_requests])
  all_goals first
    | decide
    | rfl
    | simp [State.reset, Cell.freed, QueueCtx.initial]

/-- AccountingKept, HeldRequestsGranted, FlushStarts: their premises together, on a part that steps. -/
theorem witness_accounted :
    Accounted State.reset ∧ WithinLimits State.reset ∧ HeldWait State.reset ∧ State.reset.poolSize = 0 ∧
      State.reset.steering = .off ∧ ∃ t, step State.reset = .next t :=
  ⟨witness_AccountingKept, witness_limits.1, witness_limits.2.1, rfl, rfl, _, rfl⟩

/-- ConfigurationKept, CountersOnlyCleared, StickyFlagsOnlyCleared, LogAndResponsesGrow: a command of no special kind. -/
theorem witness_plain_command :
    (∃ t, exec .status linked = .next t) ∧ tableCommand .status = false ∧ Instr.status ≠ .pwrResetAssert ∧
      Instr.status ≠ .steerOn ∧ Instr.status ≠ .steerOff ∧ Instr.status ≠ .tickAdvance ∧ Instr.status ≠ .faultDrop ∧
      (∀ b im, Instr.status ≠ .queueConfigWrite b im) ∧ (∀ b n g, Instr.status ≠ .poolConfig b n g) ∧
      (∀ n, Instr.status ≠ .tickConfig n) ∧ (∀ r, Instr.status ≠ .lineConfig r) ∧
      (∀ b, Instr.status ≠ .countersClear b) ∧ (∀ b sel, Instr.status ≠ .eventsClear b sel) ∧
      (∀ i, Instr.status ≠ .eventsWrite i ∧ Instr.status ≠ .abandon i ∧ Instr.status ≠ .returnWord i) :=
  ⟨⟨_, rfl⟩, by simp [tableCommand]⟩

/-- BindingsOfOthersKept: initiator 0 abandons while initiator 1 holds a binding in each table. -/
theorem witness_BindingsOfOthersKept :
    let s := asking false (wr 0#64) (.queue (at2 .control 2))
      (((putBound (.active 0) (part { q2 with openCount := 1 } [opn] [])).setPut 1
        (some { init := 1, origin := 0, target := 0, state := .phantom })).setTake 1
        (some { init := 1, queue := 0, state := .voided }))
    Instr.abandon 0 ∈ windowCommand 0 ∧ (∃ t, exec (.abandon 0) s = .next t) ∧
      s.putTable[1] = some { init := 1, origin := 0, target := 0, state := .phantom } ∧
      s.takeTable[1] = some { init := 1, queue := 0, state := .voided } := by
  refine ⟨by decide, ⟨_, rfl⟩, by decide, by decide⟩

/-- LatchesAreOwn: an ADD with a strobe clear invalidates a valid latch. -/
theorem witness_LatchesAreOwn :
    let s := asking false { addr := 0#40, body := .write [{ data := 1#64, strobes := 0x0F#8 }] }
      (.merge .add 0xFF#64 0x2000#40 4) (State.reset.setLatch 0 { valid := true, addr := 0x2000#40, value := 1#64 })
    ∃ t, exec (.mergeWrite 0) s = .next t ∧ t.latches[0] ≠ s.latches[0] := ⟨_, rfl, by decide⟩

/-- CountersOnlyCleared: both ends of the queue range, the pending flush, the raises. -/
theorem witness_CountersOnlyCleared :
    linked.linkReady ∧ (0#8).toNat = (0 : QueueId).val ∧ (15#8).toNat = (15 : QueueId).val ∧
      (let s := { linked with pendingCmd := .pending 15 }
       s.frame = .receiving ∧ s.pendingCmd = .pending 15) ∧
      (∃ u, exec (.countersClear 15#8) (linked.raiseLost 15) = .next u) ∧
      (∃ u, exec (.countersClear 15#8) linked = .next u) ∧
      State.raiseLost ∈ [State.raiseLost, State.raiseUnderrun, State.raiseExpired, State.raiseDiverted] ∧
      ∃ t, exec .pwrResetAssert State.reset = .next t :=
  ⟨linked_ready, rfl, rfl, ⟨rfl, rfl⟩, ⟨_, rfl⟩, ⟨_, rfl⟩, by simp, _, rfl⟩

/-- StickyFlagsOnlyCleared: the highest queue and the highest selection. -/
theorem witness_StickyFlagsOnlyCleared :
    linked.linkReady ∧ (15#8).toNat = (15 : QueueId).val ∧ (31#8).toNat < 32 ∧
      (∃ t, exec (.eventsClear 15#8 31#8) linked = .next t) ∧
      ∃ u, exec (.eventsClear 15#8 31#8) (linked.raiseLost 15) = .next u :=
  ⟨linked_ready, rfl, by decide, ⟨_, rfl⟩, _, rfl⟩

/-- IdentifyAndStatus, ReadReplies: a frame received with a flush pending, and both ends of the queue range. -/
theorem witness_link_replies :
    ({ linked with pendingCmd := .pending 3 } : State).frame = .receiving ∧ linked.linkReady ∧
      (0#8).toNat = (0 : QueueId).val ∧ (15#8).toNat = (15 : QueueId).val ∧
      (let s := { linked with log := [State.reset.deniedRecord none] }
       s.linkReady ∧ s.log = State.reset.deniedRecord none :: []) :=
  ⟨rfl, linked_ready, rfl, rfl, ⟨rfl, by decide⟩, rfl⟩

/-- MergeValues: the highest bit of a word. -/
theorem witness_MergeValues : (63 : Nat) < 64 := by decide

/-- LogAndResponsesGrow: a log of none, one, two and eight records. -/
theorem witness_LogAndResponsesGrow :
    let r : FaultRecord := State.reset.deniedRecord none
    (linked.linkReady ∧ linked.log = []) ∧
      (let s := { linked with log := [r], overflow := 3#8 }
       s.linkReady ∧ s.log = [r]) ∧
      (let s := { linked with log := [r, r] }
       s.linkReady ∧ s.log = r :: r :: [] ∧ s.log.length < 8) ∧ 8 ≤ (List.replicate 8 r).length :=
  ⟨⟨linked_ready, rfl⟩, ⟨⟨rfl, by decide⟩, rfl⟩, ⟨⟨rfl, by decide⟩, rfl, by decide⟩, by decide⟩

/-- FrameRoundTrip: a command of two bytes and a code that names no command. -/
theorem witness_FrameRoundTrip :
    (Instr.queueFlush 0xFF#8).wf = true ∧ encodeFrame (.queueFlush 0xFF#8) = some [0x24#8, 0xFF#8] ∧
      (Instr.unknownCommand 0x28#8).wf = true ∧ encodeFrame (.unknownCommand 0x28#8) = some [0x28#8] := by decide

/-- FrameEvents: select released and asserted outside a frame, with PWR_RESET and without, each phase, a link command clocked
in over a longer and a shorter rest of a reply, and codes at both ends that name no command. -/
theorem witness_FrameEvents :
    (State.reset.select = false ∧ State.reset.pwrReset = false ∧ State.reset.frame = .outside) ∧
      ({ State.reset with pwrReset := true } : State).select = false ∧
      (let s := { State.reset with pwrReset := true, select := true }
       s.select = true ∧ s.pwrReset = true ∧ s.frame = .outside) ∧
      linked.frame = .receiving ∧
      (∀ left ∈ [[], [0x00#8], [0x00#8, 0x35#8, 0x0A#8]], (answering left).frame = .responding left) ∧
      ((Instr.queueFlush 0#8).wf = true ∧ encodeFrame (.queueFlush 0#8) = some [0x24#8, 0#8]) ∧
      (0#8).toNat ∉ [0x01, 0x02, 0x10, 0x11, 0x12, 0x13, 0x20, 0x21, 0x22, 0x23, 0x24, 0x25, 0x26, 0x27, 0x30, 0x31,
        0x32, 0x33, 0x34, 0x40, 0x41] ∧
      (255#8).toNat ∉ [0x01, 0x02, 0x10, 0x11, 0x12, 0x13, 0x20, 0x21, 0x22, 0x23, 0x24, 0x25, 0x26, 0x27, 0x30, 0x31,
        0x32, 0x33, 0x34, 0x40, 0x41] :=
  ⟨⟨rfl, rfl, rfl⟩, rfl, ⟨rfl, rfl, rfl⟩, rfl, fun _ _ => rfl, by decide, by decide, by decide⟩

/-- RefusedByTheLink: the first value out of range of each argument. -/
theorem witness_RefusedByTheLink :
    (let s := { linked with pendingCmd := .pending 0 }
     busyCommand .faultDrop = true ∧ s.frame = .receiving ∧ s.pendingCmd = .pending 0) ∧
      linked.linkReady ∧ badArgument (.queueEnable 16#8) ∧ badArgument (.eventsClear 15#8 32#8) ∧
      badArgument (.poolConfig 0x20000#40 16#16 0#8) ∧ badArgument (.poolConfig 0#40 1040#16 0#8) ∧
      badArgument (.poolConfig 0#40 8#16 0#8) ∧ badArgument (.poolConfig 0#40 16#16 2#8) ∧ badArgument (.lineConfig 3#8) ∧
      badArgument (.apertureWrite 15#8 { Aperture.zero.image with kind := 3#8 }) ∧
      badArgument (.apertureWrite 15#8 { Aperture.zero.image with operation := 5#8 }) ∧
      badArgument (.queueConfigWrite 15#8 { QueueConfig.initial.image with limit := 0#16 }) ∧
      badArgument (.queueConfigWrite 15#8 { QueueConfig.initial.image with limit := 1025#16 }) ∧
      badArgument (.queueConfigWrite 15#8 { QueueConfig.initial.image with cellLen := 6#8 }) ∧
      badArgument (.queueConfigWrite 15#8 { QueueConfig.initial.image with divertTarget := 16#8 }) ∧
      badArgument (.queueConfigWrite 15#8 { QueueConfig.initial.image with eventMask := 64#8 }) ∧ 15 < (16#8).toNat := by
  refine ⟨⟨rfl, rfl, rfl⟩, linked_ready, ?_⟩
  simp [badArgument, badAperture, badConfig, badCells]

/-- ReadReplies, ApertureCommands: an enabled entry, a disabled valid one, a disabled one that is too small, a log. -/
theorem witness_ApertureCommands :
    (let s := { linked with apertures := linked.apertures.set 15 { Aperture.zero with enabled := true } }
     s.linkReady ∧ (15#8).toNat = (15 : ApId).val ∧ s.apertures[(15 : ApId)].enabled = true) ∧
      (let s := { linked with apertures := linked.apertures.set 15 { Aperture.zero with kind := .summary, sizeExp := 6#8 } }
       s.linkReady ∧ s.apertures[(15 : ApId)].enabled = false ∧ EntryValid s s.apertures[(15 : ApId)]) ∧
      (let s := { linked with apertures := linked.apertures.set 15 { Aperture.zero with kind := .summary, sizeExp := 33#8 } }
       s.linkReady ∧ s.apertures[(15 : ApId)].enabled = false ∧ ¬ EntryValid s s.apertures[(15 : ApId)]) := by
  refine ⟨⟨⟨rfl, by decide⟩, rfl, by decide⟩, ⟨⟨rfl, by decide⟩, by decide, ?_⟩, ⟨rfl, by decide⟩, by decide, ?_⟩ <;>
    (unfold EntryValid; decide)

/-- QueueConfigWritten: both ends of the Limit, the accepted write, and each ground for DENIED. -/
theorem witness_QueueConfigWritten :
    QueueConfig.initial.inRange ∧ { QueueConfig.initial with limit := 1024, watermark := 1024 }.inRange ∧
      (linked.linkReady ∧ (linked.queue 15).state = .rest .disabled ∧ Unbound linked 15 ∧ linked.holding 15 ≤ 1) ∧
      ((onLink (part q2 [] [])).linkReady ∧ ((onLink (part q2 [] [])).queue 0).state ≠ .rest .disabled) ∧
      ((onLink (putBound .phantom State.reset)).linkReady ∧ ¬ Unbound (onLink (putBound .phantom State.reset)) 0) ∧
      (let s := onLink (part { q2 with state := .rest .disabled, committed := [0, 1] } [msg .queued, msg .queued] [])
       s.linkReady ∧ 1 < s.holding 0) := by
  refine ⟨?_, ?_, ⟨linked_ready, rfl, ?_, by decide⟩, ⟨onLink_ready rfl, by decide⟩, ⟨onLink_ready rfl, ?_⟩,
    onLink_ready rfl, by decide⟩
  · unfold QueueConfig.inRange; decide
  · unfold QueueConfig.inRange; decide
  · constructor <;> intro e b h <;> simp [linked, onLink, State.reset] at h
  · intro h
    exact (h.1 0 _ rfl).1 rfl

/-- PlainSettings: N at 0 and above, each routing, and the three cases of STEER_OFF. -/
theorem witness_PlainSettings :
    (linked.linkReady ∧ linked.poolSize = 0 ∧ linked.steering = .off) ∧
      (let s := onLink (part q2 [Cell.freed] [0])
       s.linkReady ∧ s.poolSize ≠ 0 ∧ (s.queue 0).state = .rest .enabled ∧ s.steering = .on ∧ PartQuiet s) ∧
      (let s := onLink (putBound .phantom (part q2 [] []))
       s.linkReady ∧ s.steering = .on ∧ ¬ PartQuiet s) ∧
      ((0#8).toNat = 0 ∧ (1#8).toNat = 1 ∧ (2#8).toNat = 2) := by
  refine ⟨⟨linked_ready, rfl, rfl⟩, ⟨onLink_ready rfl, by decide, rfl, rfl, ?_⟩, ⟨onLink_ready rfl, rfl, ?_⟩, by decide⟩
  · unfold PartQuiet; decide
  · intro h
    exact absurd (h.1 0) (by decide)

/-- PoolRebuilt: no cells, the smallest and the largest pool; steering ON; a cell that is not FREE. -/
theorem witness_PoolRebuilt :
    linked.linkReady ∧ (0xFFFFFC0000#40).toNat % 262144 = 0 ∧
      (∀ n ∈ [0, 16, 1024], n = 0 ∨ (16 ≤ n ∧ n ≤ 1024 ∧ n % 16 = 0)) ∧
      (linked.steering = .off ∧ ∀ x ∈ linked.cells, x.state = .free) ∧ (onLink (part q2 [] [])).steering = .on ∧
      ∃ x ∈ (onLink (part q2 [opn] [])).cells, x.state ≠ .free :=
  ⟨linked_ready, by decide, by decide, ⟨rfl, by decide⟩, rfl, opn, by decide, by decide⟩

/-- DisableReleasesHeld, FlushStarts: a DISABLED queue, an ENABLED one with a held take, cells quiet and not, the drain. -/
theorem witness_DisableAndFlush :
    (linked.linkReady ∧ (linked.queue 0).state = .rest .disabled ∧ linked.arrival.Nodup ∧ Drained linked 0 ∧
      linked.drain = false) ∧
      (let s := onLink (holding 7 (held .take rd 9#32) (part q2 [] []))
       s.linkReady ∧ (s.queue 0).state = .rest .enabled ∧ s.arrival.Nodup ∧ s.heldOn 0 = [held .take rd 9#32]) ∧
      (let s := onLink (part q2 [{ opn with inFlight := 1 }] [])
       s.linkReady ∧ (s.queue 0).state = .rest .enabled ∧ s.arrival.Nodup ∧ ¬ Drained s 0) ∧
      (let s := { linked with drain := true }
       s.linkReady ∧ (s.queue 0).state = .rest .disabled ∧ s.arrival.Nodup ∧ s.drain = true) := by
  refine ⟨⟨linked_ready, rfl, by decide, ?_, rfl⟩, ⟨onLink_ready rfl, rfl, by decide, rfl⟩,
    ⟨onLink_ready rfl, rfl, by decide, ?_⟩, ⟨rfl, by decide⟩, rfl, by decide, rfl⟩
  · intro x hx; simp [linked, onLink, State.reset] at hx
  · intro h
    exact absurd (h { opn with inFlight := 1 } (by decide) rfl).1 (by decide)

/-- FlushCompletes: a FLUSHING queue with quiet cells; one whose cell has an access in flight, one under the drain. -/
theorem witness_FlushCompletes :
    let f := { q2 with state := .flushing .enabled, committed := [0] }
    let s := part f [msg .queued] []
    (s.queue 0).state = .flushing .enabled ∧ (s.queue 0).isFlushing = true ∧ Drained s 0 ∧ s.drain = false ∧
      ¬ Drained (part f [{ msg .queued with inFlight := 1 }] []) 0 ∧ ({ s with drain := true } : State).drain = true ∧
      ((part q2 [] []).queue 0).isFlushing = false := by
  refine ⟨rfl, rfl, ?_, rfl, ?_, rfl, rfl⟩ <;> (unfold Drained; decide)

/-- RequestAccepted: room for one more, an older offer waiting, a full channel, and each reset. -/
theorem witness_RequestAccepted :
    (wr 1#64).wf = true ∧
      (let s := { State.reset with
                    offers := State.reset.offers.set 7 [rd],
                    channels := State.reset.channels.set 7 (List.replicate 3 { req := rd, decoded := .passThrough }) }
       s.offers[7] ++ [wr 1#64] = rd :: [wr 1#64] ∧ s.offers[7] = rd :: [] ∧ s.pwrReset = false ∧ s.sysReset = false ∧
         s.channels[7].length < 4) ∧
      (let s := { State.reset with
                    channels := State.reset.channels.set 7 (List.replicate 4 { req := rd, decoded := .passThrough }) }
       4 ≤ s.channels[7].length) ∧
      ({ State.reset with sysReset := true } : State).sysReset = true ∧
      ({ State.reset with pwrReset := true } : State).pwrReset = true := by
  refine ⟨by decide, ⟨by decide, by decide, rfl, rfl, by decide⟩, by decide, rfl, rfl⟩

/-- Queue 0's entry: an aperture of 256 bytes at 1000h for cell length 2, and a summary entry at 2000h. -/
def steered : State :=
  { part q2 [] [] with
      apertures := (State.reset.apertures.set 0
        { Aperture.zero with enabled := true, base := 0x1000#40, sizeExp := 8#8, permitted := 0x01#8 }).set 1
        { Aperture.zero with enabled := true, base := 0x2000#40, sizeExp := 6#8, permitted := 0x01#8, kind := .summary } }

/-- A write of n beats. -/
def wrs (a : Addr) (n : Nat) : Request := { addr := a, body := .write (List.replicate n { data := 0#64, strobes := 0xFF#8 }) }

/-- QueueHitDecoded: the last word of the put window, one word more, and a write to the take window. -/
theorem witness_QueueHitDecoded :
    steered.steering = .on ∧ (steered.apertures[(0 : ApId)].kind = .queue ∧
      steered.apertures[(0 : ApId)].permitted.getLsbD 0 = true ∧ (0x1000#40).toNat % 2 ^ 8 = 0 ∧ 2 ^ 8 = 4 * max 64 (8 * 2)) ∧
      (steered.hit 0x1008#40 = some 0 ∧ 0x1008#40 &&& 7#40 = 0#40 ∧ (wrs 0x1008#40 1).wf = true ∧
        ∀ j < 1, (8 + 8 * j) / 64 = 8 / 64 ∧ (8 + 8 * j) % 64 / 8 < 2) ∧
      ((wrs 0x1008#40 2).wf = true ∧ ∃ j < 2, (8 + 8 * j) / 64 = 8 / 64 ∧ 2 ≤ (8 + 8 * j) % 64 / 8) ∧
      (steered.hit 0x1040#40 = some 0 ∧ (wrs 0x1040#40 1).wf = true ∧ (wrs 0x1040#40 1).body.isWrite = true ∧ 64 / 64 = 1) := by
  decide

/-- DecodeChecks: OFF, both places of a guarded miss, and each check of a hit. -/
theorem witness_DecodeChecks :
    State.reset.steering = .off ∧
      (let s := { part q2 (List.replicate 16 Cell.freed) [] with guardOn := true, arenaBase := 0x40000#40 }
       s.steering = .on ∧ s.hit 0x3FFF8#40 = none ∧ s.poolSize ≠ 0 ∧ s.poolSize ≤ 1024 ∧ s.guardOn = true ∧
         0x3FFF8#40 + BitVec.ofNat 40 8 = 0x40000#40 + BitVec.ofNat 40 0 ∧ 8 < 8 * 2 ∧ (wrs 0x3FFF8#40 2).wf = true ∧
         (wrs 0x3FFF0#40 2).wf = true) ∧
      (steered.hit 0x1000#40 = some 0 ∧ steered.apertures[(0 : ApId)].permitted.getLsbD 1 = false ∧
        steered.apertures[(0 : ApId)].permitted.getLsbD 0 = true) ∧
      (steered.hit 0x1001#40 = some 0 ∧ 0x1001#40 &&& 7#40 ≠ 0#40) ∧
      (steered.hit 0x2038#40 = some 1 ∧ steered.apertures[(1 : ApId)].kind = .summary ∧ 0x38 + 8 * 1 ≤ 2 ^ 6 ∧
        2 ^ 6 < 0x38 + 8 * 2) := by
  decide

/-- The merge hits of DecodeChecks: clear of the arena, inside it, and past the end of the entry. -/
theorem witness_DecodeChecks_merge :
    let s := { part q2 (List.replicate 16 Cell.freed) [] with
                 guardOn := true, arenaBase := 0x40000#40,
                 apertures := State.reset.apertures.set 0
                   { Aperture.zero with enabled := true, base := 0x1000#40, sizeExp := 6#8, permitted := 0x01#8,
                                        kind := .merge, targetBase := 0x40FC0#40 } }
    s.hit 0x1038#40 = some 0 ∧ 0x38 + 8 * 1 ≤ 2 ^ 6 ∧ 2 ^ 6 < 0x38 + 8 * 2 ∧ s.guardApplies = true ∧
      s.inArena (0x1038#40 - 0x1000#40 + 0x40FC0#40) 1 = true ∧ s.inArena (0x1038#40 - 0x1000#40 + 0x41FC0#40) 1 = false := by
  decide

/-- RefusalAnswered, SummaryAnswered, PassThroughPerformed, MergeReads, MergeBeatBegins: the current request of each kind. -/
theorem witness_current :
    Current (asking false rd (.refused .arena none none) State.reset) 0 rd (.refused .arena none none) ∧
      Current (asking false rd (.summary 0xFFFF#16 15) State.reset) 0 rd (.summary 0xFFFF#16 15) ∧
      Current (asking false rd .passThrough State.reset) 0 rd .passThrough ∧
      Current (asking false rd (.merge .add 0#64 0x2000#40 4) State.reset) 0 rd (.merge .add 0#64 0x2000#40 4) ∧
      Current (asking false (wr 1#64) (.merge .add 0#64 0x2000#40 4) State.reset) 0 (wr 1#64)
        (.merge .add 0#64 0x2000#40 4) ∧
      rd.body.isWrite = false ∧ (wr 1#64).body.isWrite = true ∧ (∀ b ∈ (wr 1#64).body.writeBeats, b.strobes = 0xFF#8) ∧
      ∃ b ∈ Body.writeBeats (.write [{ data := 1#64, strobes := 0xFE#8 }]), b.strobes ≠ 0xFF#8 := by
  refine ⟨current .., current .., current .., current .., current .., rfl, rfl, by decide, by decide⟩

/-- PassThroughPerformed: its acknowledgement. -/
theorem witness_PassThroughPerformed :
    let m : MemReq := { addr := 0x1000#40, body := .read 1, owner := .passThrough 0, fate := .live }
    let s := awaiting m (asking true rd .passThrough State.reset)
    Acknowledges s m bad ∧ m.owner = .passThrough 0 ∧ Performing s 0 rd .passThrough :=
  ⟨⟨rfl, rfl, rfl⟩, rfl, by decide, by decide⟩

/-- OpeningWriteAllocates: one cell left, and the highest word of a cell. -/
theorem witness_OpeningWriteAllocates :
    let s := asking false (wr 1#64) (.queue (at2 .put 0)) (part { q2 with openCount := 1 } [Cell.freed] [0])
    WindowTurn .put s 0 (wr 1#64) (at2 .put 0) ∧ (wr 1#64).body.isWrite = true ∧ s.putBinding 0 0 = none ∧
      (s.queue 0).state = .rest .enabled ∧ s.freePut = some 0 ∧ s.full 0 = false ∧ s.freeList = 0 :: [] ∧ 31 < 32 :=
  ⟨turn .put 0 _ rfl rfl, rfl, by decide, by decide, by decide, by decide, rfl, by decide⟩

/-- A table with no free entry. -/
def fullTables (s : State) : State :=
  { s with putTable := Vector.replicate 16 (some { init := 7, origin := 9, target := 9, state := .phantom }),
           takeTable := Vector.replicate 16 (some { init := 7, queue := 9, state := .voided }) }

/-- AccessesRefused: the drain, a stale cell length, and each refusal of each window. -/
theorem witness_AccessesRefused :
    (∀ x ∈ [{ q2 with state := .rest .disabled }, { q2 with state := .flushing .enabled }, q2],
      let s := asking false (wr 1#64) (.queue (at2 .put 0)) (fullTables (part x [] []))
      let u := asking false rd (.queue (at2 .take 0)) (fullTables (part x [] []))
      let v := asking false rd (.queue (at2 .peek 0)) (fullTables (part x [] []))
      WindowTurn .put s 0 (wr 1#64) (at2 .put 0) ∧ s.putBinding 0 0 = none ∧ s.freePut = none ∧
        WindowTurn .take u 0 rd (at2 .take 0) ∧ u.takeBinding 0 0 = none ∧ u.freeTake = none ∧
        WindowTurn .peek v 0 rd (at2 .peek 0)) ∧
      ({ q2 with state := .flushing .enabled } : QueueCtx).isFlushing = true ∧
      (let s := asking false rd (.queue { at2 .put 0 with cellLen := 5 }) (part q2 [] [])
       s.drain = false ∧ Current s 0 rd (.queue { at2 .put 0 with cellLen := 5 }) ∧ (s.queue 0).config.cellLen ≠ 5) ∧
      ({ State.reset with drain := true } : State).drain = true := by
  refine ⟨?_, rfl, ⟨rfl, current .., by decide⟩, rfl⟩
  intro x hx
  have hl : x.config.cellLen = 1 := by
    simp only [List.mem_cons, List.not_mem_nil, or_false] at hx
    obtain rfl | rfl | rfl := hx <;> rfl
  exact ⟨turn .put 0 _ rfl hl, rfl, rfl, turn .take 0 _ rfl hl, rfl, rfl, turn .peek 0 _ rfl hl⟩

/-- A full queue 0 under a policy, with one committed cell. -/
def fullPart (p : Policy) (k : CellState) : State :=
  part { q2 with config := { q2.config with policy := p, limit := 1 }, committed := [0] } [msg k] []

/-- OpeningWriteDropped, OldestDisplaced, ParkedOrEmpty: an opening write on a full queue under each policy. -/
theorem witness_full_queue :
    (∀ p, WindowTurn .put (asking false (wr 1#64) (.queue (at2 .put 0)) (fullPart p .queued)) 0 (wr 1#64) (at2 .put 0)) ∧
      (∀ p ∈ [Policy.dropNew, .displaceOldest, .divert, .hold],
        let s := asking false (wr 1#64) (.queue (at2 .put 0)) (fullPart p .queued)
        s.putBinding 0 0 = none ∧ (s.queue 0).state = .rest .enabled ∧ s.freePut = some 0 ∧ s.full 0 = true ∧
          (s.queue 0).config.policy = p) ∧
      (fullPart .displaceOldest .queued).eligible 0 = some 0 ∧ (fullPart .displaceOldest .taken).eligible 0 = none ∧
      (fullPart .divert .queued).divertTo 0 = none ∧ ((fullPart .hold .queued).queue 0).config.putWait = 0#16 :=
  ⟨fun _ => turn .put 0 _ rfl rfl, by decide, by decide, by decide, by decide, rfl⟩

/-- WriteDiverted: queue 0 diverts to queue 1. -/
theorem witness_WriteDiverted :
    let s := asking false (wr 1#64) (.queue (at2 .put 0))
      { part q2 [msg .queued, Cell.freed] [1] with
          queues := (State.reset.queues.set 0
            { q2 with config := { q2.config with policy := .divert, limit := 1, divertTarget := some 1 }, committed := [0] }).set
            1 q2 }
    WindowTurn .put s 0 (wr 1#64) (at2 .put 0) ∧ s.putBinding 0 0 = none ∧ (s.queue 0).state = .rest .enabled ∧
      s.freePut = some 0 ∧ s.full 0 = true ∧ (s.queue 0).config.policy = .divert ∧ s.divertTo 0 = some 1 ∧
      s.freeList = 1 :: [] :=
  ⟨turn .put 0 _ rfl rfl, by decide, by decide, by decide, by decide, by decide, by decide, rfl⟩

/-- ParkedOrEmpty: a wait above 0, a free slot, and an empty queue with and without a take wait. -/
theorem witness_ParkedOrEmpty :
    (let s := asking false (wr 1#64) (.queue (at2 .put 0))
       (part { q2 with config := { q2.config with policy := .hold, putWait := 0xFFFF#16 } } [] [])
     WindowTurn .put s 0 (wr 1#64) (at2 .put 0) ∧ s.putBinding 0 0 = none ∧ (s.queue 0).state = .rest .enabled ∧
       s.freePut = some 0 ∧ s.full 0 = true ∧ (s.queue 0).config.policy = .hold ∧ (s.queue 0).config.putWait ≠ 0#16 ∧
       s.freeSlot = some 0) ∧
      (let s := asking false rd (.queue (at2 .take 0))
         (part { q2 with config := { q2.config with takeWait := 1#16 } } [] [])
       WindowTurn .take s 0 rd (at2 .take 0) ∧ s.takeBinding 0 0 = none ∧ (s.queue 0).state = .rest .enabled ∧
         s.freeTake = some 0 ∧ s.oldest 0 = none ∧ (s.queue 0).config.takeWait ≠ 0#16 ∧ s.freeSlot = some 0) ∧
      (let s := asking false rd (.queue (at2 .take 0)) (part q2 [] [])
       WindowTurn .take s 0 rd (at2 .take 0) ∧ s.takeBinding 0 0 = none ∧ (s.queue 0).state = .rest .enabled ∧
         s.freeTake = some 0 ∧ s.oldest 0 = none ∧ (s.queue 0).config.takeWait = 0#16) :=
  ⟨⟨turn .put 0 _ rfl rfl, by decide⟩, ⟨turn .take 0 _ rfl rfl, by decide⟩, turn .take 0 _ rfl rfl, by decide⟩

/-- BoundWrites, PutWindowReads: each state of a put binding, with the target queue FLUSHING and not. -/
theorem witness_put_bindings :
    ∀ k ∈ [PutState.active 0, .phantom, .voided], ∀ x ∈ [q2, { q2 with state := .flushing .enabled }],
      let s := asking false (wr 1#64) (.queue (at2 .put 1)) (putBound k (part x [opn] []))
      let u := asking false rd (.queue (at2 .put 1)) (putBound k (part x [opn] []))
      WindowTurn .put s 0 (wr 1#64) (at2 .put 1) ∧
        s.putBinding 0 0 = some (0, { init := 0, origin := 0, target := 0, state := k }) ∧
        WindowTurn .put u 0 rd (at2 .put 1) ∧
        u.putBinding 0 0 = some (0, { init := 0, origin := 0, target := 0, state := k }) := by
  intro k _ x hx
  have hl : x.config.cellLen = 1 := by
    simp only [List.mem_cons, List.not_mem_nil, or_false] at hx
    obtain rfl | rfl := hx <;> rfl
  exact ⟨turn .put 1 _ rfl hl, rfl, turn .put 1 _ rfl hl, rfl⟩

/-- PutWindowReads: no binding. -/
theorem witness_PutWindowReads :
    let s := asking false rd (.queue (at2 .put 0)) (part q2 [] [])
    WindowTurn .put s 0 rd (at2 .put 0) ∧ rd.body.isWrite = false ∧ s.putBinding 0 0 = none :=
  ⟨turn .put 0 _ rfl rfl, rfl, rfl⟩

/-- AccessAcknowledged: each use of a cell, with an error and without. -/
theorem witness_AccessAcknowledged :
    (∀ use ∈ [CellUse.compose false, .compose true], ∀ beats ∈ [good, bad],
      CellAcknowledges (performing (wr 1#64) .put 1 use (part q2 [opn] [])) (cellUse use) (wr 1#64) (at2 .put 1) beats) ∧
      (∀ use ∈ [CellUse.putRead, .take false, .take true, .peek], ∀ beats ∈ [good, bad],
        CellAcknowledges (performing rd .take 1 use (part q2 [opn] [])) (cellUse use) rd (at2 .take 1) beats) ∧
      good.any MemBeat.error = false ∧ bad.any MemBeat.error = true := by
  refine ⟨?_, ?_, rfl, rfl⟩ <;>
    (intro use _ beats hb
     refine cell_ack _ _ _ _ _ _ ?_
     simp only [List.mem_cons, List.not_mem_nil, or_false] at hb
     obtain rfl | rfl := hb <;> rfl)

/-- ClosingWriteCommits, DamagedDiscarded: an undamaged and a damaged cell. -/
theorem witness_ClosingWrite :
    (let s := performing (wr 1#64) .put 1 (.compose true) (putBound (.active 0) (part q2 [opn] []))
     CellAcknowledges s (cellUse (.compose true)) (wr 1#64) (at2 .put 1) good ∧ (wr 1#64).body.isWrite = true ∧
       good.any MemBeat.error = false ∧ (s.cell 0).damaged = false ∧ (s.cell 0).written = some 1#32 ∧
       s.putEntry 0 0 = some 0) ∧
      (let s := performing (wr 1#64) .put 1 (.compose true)
         (putBound (.active 0) (part q2 [{ opn with damaged := true }] []))
       CellAcknowledges s (cellUse (.compose true)) (wr 1#64) (at2 .put 1) good ∧ (s.cell 0).damaged = true ∧
         s.putEntry 0 0 = some 0) :=
  ⟨⟨cell_ack _ _ _ _ _ _ rfl, rfl, rfl, rfl, rfl, rfl⟩, cell_ack _ _ _ _ _ _ rfl, rfl, rfl⟩

/-- TakeReads, VoidedTakeRead: a message for a first take, an ACTIVE binding on a queue FLUSHING and not, a VOIDED one. -/
theorem witness_TakeReads :
    (let s := asking false rd (.queue (at2 .take 0)) (part { q2 with committed := [0] } [msg .queued] [])
     WindowTurn .take s 0 rd (at2 .take 0) ∧ s.takeBinding 0 0 = none ∧ (s.queue 0).state = .rest .enabled ∧
       s.freeTake = some 0 ∧ s.oldest 0 = some 0) ∧
      (let s := asking false rd (.queue (at2 .take 1)) (takeBound (.active 0) (part q2 [msg .taken] []))
       WindowTurn .take s 0 rd (at2 .take 1) ∧
         s.takeBinding 0 0 = some (0, { init := 0, queue := 0, state := .active 0 }) ∧ (s.queue 0).isFlushing = false) ∧
      (let s := asking false rd (.queue (at2 .take 1))
         (takeBound (.active 0) (part { q2 with state := .flushing .disabled } [msg .taken] []))
       WindowTurn .take s 0 rd (at2 .take 1) ∧
         s.takeBinding 0 0 = some (0, { init := 0, queue := 0, state := .active 0 }) ∧ (s.queue 0).isFlushing = true) ∧
      (let s := asking false rd (.queue (at2 .take 1)) (takeBound .voided (part q2 [] []))
       WindowTurn .take s 0 rd (at2 .take 1) ∧ rd.body = .read 1 ∧
         s.takeBinding 0 0 = some (0, { init := 0, queue := 0, state := .voided }) ∧ (at2 .take 1).closing 1 = true ∧
         ∀ (e : EntryId) b, s.takeTable[e] = some b → b.init = 0 → b.queue = 0 → e = 0) := by
  refine ⟨⟨turn .take 0 _ rfl rfl, by decide⟩, ⟨turn .take 1 _ rfl rfl, rfl, rfl⟩, ⟨turn .take 1 _ rfl rfl, rfl, rfl⟩,
    turn .take 1 _ rfl rfl, rfl, rfl, by decide, ?_⟩
  intro e b h _ _
  by_cases he : e = 0
  · exact he
  · have hv : (0 : Nat) ≠ e.val := fun h0 => he (Fin.ext h0.symm)
    simp [asking, takeBound, State.setTake, part, State.reset, hv] at h

/-- ClosingReadRetires, PeekReads: the closing read with and without a pin, the last pin and one that is not. -/
theorem witness_ClosingReadRetires :
    (∀ n ∈ [0, 1],
      let s := performing rd .take 1 (.take true)
        (takeBound (.active 0) (part { q2 with committed := [0] } [{ msg .taken with pins := n }] []))
      CellAcknowledges s (cellUse (.take true)) rd (at2 .take 1) good ∧ s.takeEntry 0 0 = some 0) ∧
      LastPin (performing rd .peek 0 .peek (part q2 [{ msg .taken with pins := 1 }] [])) 0 ∧
      ¬ LastPin (performing rd .peek 0 .peek (part { q2 with committed := [0] } [{ msg .taken with pins := 1 }] [])) 0 := by
  refine ⟨fun n _ => ⟨cell_ack _ _ _ _ _ _ rfl, rfl⟩, ⟨rfl, rfl, 0, rfl, by decide⟩, ?_⟩
  rintro ⟨-, -, q, h, hq⟩
  obtain rfl : q = 0 := by simpa [performing, awaiting, asking, part, State.cell, msg] using h.symm
  exact hq (by decide)

/-- PeekReads: a message to peek at, and none. -/
theorem witness_PeekReads :
    (let s := asking false rd (.queue (at2 .peek 0)) (part { q2 with committed := [0] } [msg .queued] [])
     WindowTurn .peek s 0 rd (at2 .peek 0) ∧ (s.queue 0).state = .rest .enabled ∧ s.oldest 0 = some 0) ∧
      (let s := asking false rd (.queue (at2 .peek 0)) (part q2 [] [])
       WindowTurn .peek s 0 rd (at2 .peek 0) ∧ (s.queue 0).state = .rest .enabled ∧ s.oldest 0 = none) :=
  ⟨⟨turn .peek 0 _ rfl rfl, rfl, rfl⟩, turn .peek 0 _ rfl rfl, rfl, rfl⟩

/-- ControlWritesPerformed, ControlPageRead: a burst over words 1 to 4, one over words 5 and 6, and a read. -/
theorem witness_ControlWritesPerformed :
    (let s := asking false (wrs 0#40 4) (.queue (at2 .control 1)) (part q2 [] [])
     s.drain = false ∧ Current s 0 (wrs 0#40 4) (.queue (at2 .control 1)) ∧ (at2 .control 1).window = .control ∧
       (∃ j < 4, 1 + j = 2) ∧ (∃ j < 4, 1 + j = 3) ∧ ∃ j < 4, 1 + j = 4) ∧
      (let s := asking false (wrs 0#40 2) (.queue (at2 .control 5)) (part q2 [] [])
       s.drain = false ∧ Current s 0 (wrs 0#40 2) (.queue (at2 .control 5)) ∧ ∀ j < 2, 5 + j ∉ [2, 3, 4]) ∧
      Current (asking false rd (.queue (at2 .control 0)) (part q2 [] [])) 0 rd (.queue (at2 .control 0)) ∧
      rd.body = .read 1 :=
  ⟨⟨rfl, current .., rfl, by decide⟩, ⟨rfl, current .., by decide⟩, current .., rfl⟩

/-- ControlWordEffects, ControlPageRead: each binding of a control page, and counts within their fields. -/
theorem witness_ControlWordEffects :
    (∀ k ∈ [PutState.active 0, .phantom, .voided], (putBound k (part q2 [opn] [])).putBinding 0 0 =
      some (0, { init := 0, origin := 0, target := 0, state := k })) ∧
      (∀ k ∈ [TakeState.active 0, .voided], (takeBound k (part q2 [msg .taken] [])).takeBinding 0 0 =
        some (0, { init := 0, queue := 0, state := k })) ∧
      ((part q2 [] []).putBinding 0 0 = none ∧ (part q2 [] []).takeBinding 0 0 = none) ∧
      ((part q2 [msg .taken] []).cell 0).sequence = some 0#16 ∧
      (let s := part { q2 with committed := [0], openCount := 31 } [msg .queued] []
       s.available 0 < 2048 ∧ s.takenCount 0 < 32 ∧ (s.queue 0).openCount < 32) := by decide

/-- MergeReads: its acknowledgement. -/
theorem witness_MergeReads :
    let m : MemReq := { addr := 0x2000#40, body := .read 1, owner := .mergeRead 0, fate := .live }
    let s := awaiting m (asking true rd (.merge .set 0#64 0x2000#40 4) State.reset)
    Acknowledges s m good ∧ Acknowledges s m bad ∧ m.owner = .mergeRead 0 ∧
      Performing s 0 rd (.merge .set 0#64 0x2000#40 4) ∧ good.getLast? = some { error := false, data := 7#64 } :=
  ⟨⟨rfl, rfl, rfl⟩, ⟨rfl, rfl, rfl⟩, rfl, ⟨by decide, by decide⟩, rfl⟩

/-- MergeBeatBegins, MergeBeatEnds: a beat at each stage, a free lock and a taken word, a quiet word and one that is not. -/
theorem witness_MergeBeats :
    (∀ op stage, MergeAt (merging op stage State.reset) 0
      { req := wr 5#64, op := op, mask := 0xFF#64, target := 0x2000#40, aperture := 4 } 0 stage) ∧
      mayLock State.reset.locks State.reset.waiting 0x2000#40 = true ∧
      mayLock [{ word := 0x2000#40, init := 1, stage := .reading }] [] 0x2000#40 = false ∧
      (∀ x ∈ State.reset.issueQ ++ State.reset.outstanding, shareWord x.addr x.body.count 0x2000#40 1 = false) ∧
      (let s := awaiting { addr := 0x2007#40, body := .read 1, owner := .passThrough 1, fate := .live }
         (merging .set .locked State.reset)
       ∃ x ∈ s.issueQ ++ s.outstanding, shareWord x.addr x.body.count 0x2000#40 1 = true) := by
  refine ⟨fun op stage => ⟨⟨rfl, rfl⟩, rfl⟩, by decide, by decide, by decide, by decide⟩

/-- MergeBeatEnds: the acknowledgements of a beat, a COND that holds and one that does not, the last beat of two. -/
theorem witness_MergeBeatEnds :
    (∀ op, Acknowledges (awaiting (beatReq (.beatRead 0)) (merging op .reading State.reset)) (beatReq (.beatRead 0)) good ∧
      Acknowledges (awaiting (beatReq (.beatWrite 0)) (merging op .writing State.reset)) (beatReq (.beatWrite 0)) bad) ∧
      condHolds { valid := true, addr := 0x2000#40, value := 7#64 } 0x2000#40 7#64 = true ∧
      condHolds { valid := true, addr := 0x2008#40, value := 7#64 } 0x2000#40 7#64 = false ∧
      (wrs 0#40 2).body.count = 2 ∧ (wr 5#64).body.count ≤ 0 + 1 ∧ 1 < (wrs 0#40 2).body.writeBeats.length :=
  ⟨fun _ => ⟨⟨rfl, rfl, rfl⟩, rfl, rfl, rfl⟩, by decide, by decide, rfl, by decide, by decide⟩

/-- PresentedAndReleased: the second issued request passes the first, which conflicts in its last byte; then none passes. An
access whose word is locked, one whose word is not, and a beat of each kind; the address space wraps at its top. -/
theorem witness_PresentedAndReleased :
    let w (i : InitId) (a : Addr) : MemReq := { addr := a, body := (wr 1#64).body, owner := .passThrough i, fate := .live }
    let s := { State.reset with outstanding := [w 0 0x1000#40], issueQ := [w 1 0x1007#40, w 2 0x1010#40] }
    let u := { State.reset with locks := [{ word := 0x2000#40, init := 0, stage := .reading }] }
    s.issueQ = [w 1 0x1007#40] ++ w 2 0x1010#40 :: [] ∧ s.outstanding.length < 16 ∧
      (∀ e ∈ s.outstanding ++ [w 1 0x1007#40], (w 2 0x1010#40).conflicts e = false) ∧
      (∃ e ∈ s.outstanding, (w 1 0x1007#40).conflicts e = true) ∧
      16 ≤ (List.replicate 16 (w 0 0x1000#40)).length ∧
      (blocked u.locks u.waiting 0x2007#40 1 = true ∧ blocked u.locks u.waiting 0x2008#40 1 = false) ∧
      (mayLock u.locks [] 0x2000#40 = false ∧ mayLock u.locks [] 0x2008#40 = true) ∧
      (1 ≤ (w 0 0#40).body.count ∧ (w 0 0xFFFFFFFFF9#40).conflicts (w 1 0#40) = true ∧
        (w 0 0xFFFFFFFFF8#40).conflicts (w 1 0#40) = false ∧ shareWord 0xFFFFFFFFF9#40 1 0#40 1 = true) ∧ Settled s := by
  refine ⟨rfl, by decide, by decide, by decide, by decide, by decide, by decide, by decide, ?_⟩
  intro b x a h; simp [State.reset] at h

/-- HeldRequestsExpire: a due take and a due put, with a free entry and without. -/
theorem witness_HeldRequestsExpire :
    (holding 7 (held .take rd 0#32) (part q2 [] [])).dueHeld .take 0 = some (7, held .take rd 0#32) ∧
      (let s := holding 7 (held .put (wr 1#64) 0#32) (part q2 [] [])
       s.dueHeld .put 0 = some (7, held .put (wr 1#64) 0#32) ∧ s.freePut = some 0) ∧
      (let s := holding 7 (held .put (wr 1#64) 0#32) (fullTables (part q2 [] []))
       s.dueHeld .put 0 = some (7, held .put (wr 1#64) 0#32) ∧ s.freePut = none) ∧
      (held .put (wr 1#64) 0#32).access.queue = (held .put (wr 1#64) 0#32).queue := by
  refine ⟨rfl, ⟨rfl, rfl⟩, ⟨rfl, rfl⟩, rfl⟩

/-- HeldRequestsGranted: a held put with room and a held take with a message, with a free entry and without. -/
theorem witness_HeldRequestsGranted :
    (let s := holding 7 (held .put (wr 1#64) 9#32) (part q2 [Cell.freed] [0])
     grantee s = some (7, held .put (wr 1#64) 9#32) ∧ s.drain = false ∧ s.freePut = some 0 ∧ s.freeList = 0 :: []) ∧
      (let s := holding 7 (held .put (wr 1#64) 9#32) (fullTables (part q2 [Cell.freed] [0]))
       grantee s = some (7, held .put (wr 1#64) 9#32) ∧ s.freePut = none) ∧
      (let s := holding 7 (held .take rd 9#32) (part { q2 with committed := [0] } [msg .queued] [])
       s.arrival = [] ++ 7 :: [] ∧ s.slots[7] = some (held .take rd 9#32) ∧ s.oldest 0 = some 0 ∧ s.freeTake = some 0) ∧
      (fullTables State.reset).freeTake = none := by
  refine ⟨⟨rfl, rfl, rfl, rfl⟩, ⟨rfl, rfl⟩, ⟨rfl, rfl, rfl, rfl⟩, rfl⟩

/-- SysResetClearsAndKeeps: the accesses of each use that may wait on the MU, a last pin and one that is not. -/
theorem witness_SysResetClearsAndKeeps :
    (State.reset.sysReset = false ∧ State.reset.pwrReset = false) ∧ Accounted State.reset ∧
      (∀ use ∈ [CellUse.compose false, .putRead, .take true],
        (cellReq rd use .live).owner = .cell (cellUse use) ∧ (cellUse use).use ≠ .peek) ∧
      (cellReq rd .peek .live).owner = .cell (cellUse .peek) ∧ LastPin (part q2 [{ msg .taken with pins := 1 }] []) 0 ∧
      ¬ LastPin (part q2 [{ msg .queued with pins := 1 }] []) 0 ∧ (beatReq (.beatRead 0)).owner ≠ .cell (cellUse .peek) := by
  refine ⟨⟨rfl, rfl⟩, witness_AccountingKept, by decide, rfl, ⟨rfl, rfl, 0, rfl, by decide⟩, ?_, by decide⟩
  rintro ⟨-, h, -⟩
  exact absurd h (by decide)

/-- PowerResetAndReleases, SysResetClearsAndKeeps, DiscardedAcknowledged: PWR_RESET asserted; a drain that ends, with no queue
FLUSHING and with one; a drain that does not, and none. -/
theorem witness_PowerResetAndReleases :
    ({ State.reset with pwrReset := true } : State).pwrReset = true ∧
      (let s := { part q2 [Cell.freed] [0] with drain := true }
       s.drain = true ∧ DrainOver s ∧ ∀ q, (s.queue q).isFlushing = false) ∧
      (let s := { part { q2 with state := .flushing .enabled } [Cell.freed] [0] with drain := true }
       s.drain = true ∧ DrainOver s ∧ (s.queue 0).state = .flushing .enabled ∧
         ∀ p, p ≠ 0 → (s.queue p).isFlushing = false) ∧
      ¬ DrainOver { part q2 [{ msg .queued with pins := 1 }] [0] with drain := true } ∧ State.reset.drain = false := by
  refine ⟨rfl, ⟨rfl, ⟨?_, by decide⟩, by decide⟩, ⟨rfl, ⟨?_, by decide⟩, rfl, by decide⟩, ?_, rfl⟩
  · intro m hm; simp [part, State.reset] at hm
  · intro m hm; simp [part, State.reset] at hm
  · intro h
    exact absurd (h.2 _ (by simp [part]; rfl)).2 (by decide)

/-- DiscardedAcknowledged: a request left by PWR_RESET, a discarded access, a discarded peek that holds the last pin. -/
theorem witness_DiscardedAcknowledged :
    ((awaiting (cellReq rd .peek .dropped) State.reset).outstanding.head? = some (cellReq rd .peek .dropped) ∧
      good.length = (cellReq rd .peek .dropped).count) ∧
      (awaiting (cellReq rd (.take true) .discarded) State.reset).outstanding.head? =
        some (cellReq rd (.take true) .discarded) ∧
      ((awaiting (cellReq rd .peek .discarded) (part q2 [{ msg .taken with pins := 1 }] [])).outstanding.head? =
        some (cellReq rd .peek .discarded) ∧
        LastPin (awaiting (cellReq rd .peek .discarded) (part q2 [{ msg .taken with pins := 1 }] [])) 0) :=
  ⟨⟨rfl, rfl⟩, rfl, rfl, rfl, rfl, 0, rfl, by decide⟩

end Sys2Proof.Tests
end

section
/-! PROOF. TAKE_WINDOW_READ through a VOIDED binding (R65): what the QE finds at the turn of a window request, what an answer
given together with an update of the Take Binding Table leaves, and when an initiator holds no take binding for a queue. -/

namespace Sys2Proof.Machine

/-! ### The turn of a window request -/

/-- A current request is found until its block takes it (R158). -/
theorem Current.current {s : State} {i : InitId} {r : Request} {d : Decoded} (h : Current s i r d) :
    s.current i = some { req := r, decoded := d } := by
  obtain ⟨htaken, hhead⟩ := h
  rw [State.current, if_neg (by simp [htaken])]
  exact hhead

/-- The QE finds the current window request at its turn (R126, R158). -/
theorem WindowTurn.windowRequest {w : Window} {s : State} {i : InitId} {r : Request} {a : QueueAccess}
    (h : WindowTurn w s i r a) : s.windowRequest w i = some (r, a) := by
  obtain ⟨hdrain, hcurrent, hwindow, -⟩ := h
  simp [State.windowRequest, hdrain, hcurrent.current, hwindow]

/-- A window request at its turn still has the cell length of its decode (R126). -/
theorem WindowTurn.stale {w : Window} {s : State} {i : InitId} {r : Request} {a : QueueAccess}
    (h : WindowTurn w s i r a) : s.stale a = false := by
  obtain ⟨-, -, -, hlen⟩ := h
  simp [State.stale, hlen]

/-- A read of a take window at its turn goes through the binding that its key has (R50, R58, R65). -/
theorem exec_takeWindowRead_bound {s : State} {i : InitId} {r : Request} {a : QueueAccess} {e : EntryId} {b : TakeBinding}
    (hturn : WindowTurn .take s i r a) (hread : r.body.isWrite = false) (hbind : s.takeBinding i a.queue = some (e, b)) :
    exec (.takeWindowRead i) s = .next (boundTake i r a e b s).notify := by
  change execTakeWindowRead i s = _
  simp [execTakeWindowRead, hturn.windowRequest, hread, takeWindowRead, hturn.stale, hbind, finish]

/-! ### An answer together with an update of the Take Binding Table -/

/-- The system port answers the same whatever the Take Binding Table holds (R157 to R159). -/
theorem respond_answered_takeTable (i : InitId) (code : RespCode) (data : List Word) (s : State)
    (table : Vector (Option TakeBinding) 16) :
    Answered i code data s (respond i code data { s with takeTable := table }) :=
  respond_answered i code data { s with takeTable := table }

/-- Nothing but the system port and the Take Binding Table changes. -/
theorem respond_takeTable_eq (i : InitId) (code : RespCode) (data : List Word) (s : State)
    (table : Vector (Option TakeBinding) 16) :
    respond i code data { s with takeTable := table } =
      { s.port (respond i code data { s with takeTable := table }) with takeTable := table } :=
  respond_eq i code data { s with takeTable := table }

/-- The NU's end of the step leaves an answer as it is. -/
theorem Answered.notify {i : InitId} {code : RespCode} {data : List Word} {s t : State} (h : Answered i code data s t) :
    Answered i code data s t.notify := h

/-! ### Reading through a VOIDED binding -/

/-- The Take Binding Table after a read of `n` beats through the VOIDED binding in entry `e`: only a closing read frees the
binding (R65). -/
def State.voidedReadTable (s : State) (a : QueueAccess) (e : EntryId) (n : Nat) : Vector (Option TakeBinding) 16 :=
  if a.closing n then s.takeTable.set e none else s.takeTable

/-- A closing read empties the entry. -/
theorem State.voidedReadTable_closing (s : State) {a : QueueAccess} (e : EntryId) {n : Nat} (h : a.closing n = true) :
    s.voidedReadTable a e n = s.takeTable.set e none := if_pos h

/-- A read through a VOIDED binding is answered FAIL with the empty pattern, whatever the queue's state (R65). -/
theorem boundTake_voided (i : InitId) (r : Request) (a : QueueAccess) (e : EntryId) {b : TakeBinding} (s : State)
    (h : b.state = .voided) :
    boundTake i r a e b s =
      respond i .fail (s.emptyData a.queue r) { s with takeTable := s.voidedReadTable a e r.body.count } := by
  unfold boundTake State.voidedReadTable
  rw [h]
  dsimp only
  split <;> rfl

/-! ### Holding no take binding -/

/-- An initiator holds no take binding for a queue when no entry has that key (R50). -/
theorem State.takeBinding_eq_none {s : State} {i : InitId} {q : QueueId}
    (h : ∀ (e : EntryId) b, s.takeTable[e] = some b → b.init = i → b.queue ≠ q) : s.takeBinding i q = none := by
  have hentry : s.takeEntry i q = none := by
    refine List.find?_eq_none.mpr fun e _ => ?_
    cases hb : s.takeTable[e] with
    | none => simp
    | some b => simpa using h e b hb
  simp [State.takeBinding, hentry]

/-- Once the only entry with a key is emptied, the initiator holds no take binding for the queue (R50, R52). -/
theorem State.takeBinding_eq_none_of_emptied {s t : State} {i : InitId} {q : QueueId} {e : EntryId}
    (hunique : ∀ (e' : EntryId) b, s.takeTable[e'] = some b → b.init = i → b.queue = q → e' = e)
    (htable : t.takeTable = s.takeTable.set e none) : t.takeBinding i q = none := by
  refine State.takeBinding_eq_none fun e' b hb hinit hqueue => ?_
  rw [htable] at hb
  by_cases he : e' = e
  · subst he
    simp at hb
  · have hval : (e : Nat) ≠ e' := fun h => he (Fin.ext h.symm)
    have hold : s.takeTable[e'] = some b := by simpa [Vector.getElem_set_ne, hval] using hb
    exact he (hunique e' b hold hinit hqueue)

/-! ### The obligation -/

/-- Settles O44: the command is the response on the updated table, which says the answer and the frame; a closing read has
emptied the one entry with the key. -/
theorem voidedTakeRead : Obligations.VoidedTakeRead := by
  intro s i r a e b n hturn hbody hbind hvoided
  have hread : r.body.isWrite = false := by rw [hbody]; rfl
  have hcount : r.body.count = n := by rw [hbody]; rfl
  have hdata : s.emptyData a.queue r = List.replicate n (s.queue a.queue).config.emptyPattern := by
    rw [State.emptyData, hbody]; rfl
  refine ⟨_, exec_takeWindowRead_bound hturn hread hbind, ?_⟩
  rw [boundTake_voided i r a e s hvoided, hcount, hdata]
  refine ⟨(respond_answered_takeTable _ _ _ _ _).notify, ?_, fun hclosing hunique => ?_⟩
  · exact congrArg State.notify (respond_takeTable_eq _ _ _ _ _)
  · refine State.takeBinding_eq_none_of_emptied hunique ?_
    rw [State.notify_takeTable, respond_takeTable_eq, State.voidedReadTable_closing s e hclosing]

end Sys2Proof.Machine
end

section
/-! PROOF. PUT_WINDOW_WRITE under DISPLACE_OLDEST (R74, R75): how the QE reaches the overflow policies, what a composition write
does to its cell, which cell is eligible, and the state in which the cell has passed to the new composition. -/

namespace Sys2Proof.Machine

/-! ### The way of an opening write to the overflow policies -/

/-- A write of a put window at its turn, under a key with no binding, is an opening write (R27, R30). -/
theorem exec_putWindowWrite_opening {s : State} {i : InitId} {r : Request} {a : QueueAccess}
    (hturn : WindowTurn .put s i r a) (hwrite : r.body.isWrite = true) (hbind : s.putBinding i a.queue = none) :
    exec (.putWindowWrite i) s = .next (openingWrite i r a s).notify := by
  change execPutWindowWrite i s = _
  simp [execPutWindowWrite, hturn.windowRequest, hwrite, putWrite, hturn.stale, hbind, finish]

/-- An opening write on a full ENABLED queue with a free entry is decided by the queue's policy (R30, R71). -/
theorem openingWrite_full {s : State} (i : InitId) (r : Request) {a : QueueAccess} {e : EntryId}
    (henabled : (s.queue a.queue).state = .rest .enabled) (hfree : s.freePut = some e) (hfull : s.full a.queue = true) :
    openingWrite i r a s = fullWrite i r a e s := by
  simp [openingWrite, henabled, hfree, hfull]

/-- Under DISPLACE_OLDEST an eligible cell is displaced (R71, R74). -/
theorem fullWrite_displaceOldest {s : State} (i : InitId) (r : Request) {a : QueueAccess} (e : EntryId) {c : Nat}
    (hpolicy : (s.queue a.queue).config.policy = .displaceOldest) (hcell : s.eligible a.queue = some c) :
    fullWrite i r a e s = displaceWrite i r a e c (s.take i) := by
  simp [fullWrite, hpolicy, hcell]

/-! ### A composition write and its cell -/

/-- A composition write adds its words to the written-word set, counts an access in flight and goes to the cell (R33, R34). -/
theorem composeWrite_eq_handOver (i : InitId) (r : Request) (a : QueueAccess) (target : QueueId) {c : Nat} {s : State}
    (hc : c < s.cells.length) :
    composeWrite i r a target c s =
      handOver (s.cellWord i r a target c (.compose (a.closing r.body.count)))
        (s.setCell c { s.cell c with
          written := (s.cell c).written.map (· ||| writtenBits a.first r.body.writeBeats),
          inFlight := (s.cell c).inFlight + 1 }) := by
  unfold composeWrite incFlight
  cases r.body <;> simp only [State.updCell_eq, State.setCell_cell_self s hc, State.setCell_setCell] <;> rfl

/-- The first composition write into a cell that has just become OPEN (R11, R33, R34). -/
theorem composeWrite_opening (i : InitId) (r : Request) (a : QueueAccess) (target : QueueId) {c : Nat} {s : State}
    {q : QueueId} {origin : Option QueueId} (hc : c < s.cells.length) (hcell : s.cell c = Cell.opening q origin) :
    composeWrite i r a target c s =
      handOver (s.cellWord i r a target c (.compose (a.closing r.body.count)))
        (s.setCell c { Cell.opening q origin with
          written := some (writtenBits a.first r.body.writeBeats), inFlight := 1 }) := by
  rw [composeWrite_eq_handOver i r a target hc, hcell]
  simp [Cell.opening]

/-! ### The eligible cell (R74) -/

/-- The chosen cell is QUEUED, unpinned and not in flight, and no cell before it in the committed list is. -/
theorem State.eligible_eq_some_iff (s : State) (q : QueueId) (c : Nat) :
    s.eligible q = some c ↔
      ∃ before after, (s.queue q).committed = before ++ c :: after ∧
        ((s.cell c).state = .queued ∧ (s.cell c).pins = 0 ∧ (s.cell c).inFlight = 0) ∧
        ∀ d ∈ before, ¬ ((s.cell d).state = .queued ∧ (s.cell d).pins = 0 ∧ (s.cell d).inFlight = 0) := by
  rw [State.eligible, List.find?_eq_some_iff_append]
  simp only [Bool.and_eq_true, decide_eq_true_eq, Bool.not_eq_true', and_assoc, Bool.eq_false_iff, ne_eq]
  constructor
  · rintro ⟨hqueued, hpins, hflight, before, after, hlist, hbefore⟩
    exact ⟨before, after, hlist, hqueued, hpins, hflight, hbefore⟩
  · rintro ⟨before, after, hlist, hqueued, hpins, hflight, hbefore⟩
    exact ⟨hqueued, hpins, hflight, before, after, hlist, hbefore⟩

/-- A number outside the pool reads as FREE, so a QUEUED cell is a cell of the pool (R3). -/
theorem State.lt_length_of_queued {s : State} {c : Nat} (h : (s.cell c).state = .queued) : c < s.cells.length := by
  by_contra hout
  have hfreed : s.cell c = Cell.freed := List.getD_eq_default _ _ (Nat.le_of_not_lt hout)
  rw [hfreed] at h
  cases h

/-- The eligible cell is a cell of the pool. -/
theorem State.lt_length_of_eligible {s : State} {q : QueueId} {c : Nat} (h : s.eligible q = some c) :
    c < s.cells.length := by
  obtain ⟨_, _, _, ⟨hqueued, _, _⟩, _⟩ := (s.eligible_eq_some_iff q c).mp h
  exact State.lt_length_of_queued hqueued

/-! ### The displacement (R75) -/

/-- Cell `c` of queue `q` has passed to a new composition of initiator `i`, bound in entry `e`: it has left the committed list
and is OPEN, and its message is counted lost. Nothing is written to it yet. -/
def State.displaced (s : State) (i : InitId) (q : QueueId) (e : EntryId) (c : Nat) : State :=
  { s with
      cells := s.cells.set c (Cell.opening q none),
      queues := s.queues.set q { s.queue q with
        committed := (s.queue q).committed.erase c, openCount := (s.queue q).openCount + 1, lost := satInc (s.queue q).lost },
      flags := s.flags.set q { s.flags[q] with lost := true },
      putTable := s.putTable.set e (some { init := i, origin := q, target := q, state := .active c }) }

/-- A displacing write is the composition write in the state after the displacement. -/
theorem displaceWrite_eq_composeWrite (i : InitId) (r : Request) (a : QueueAccess) (e : EntryId) (c : Nat) (s : State) :
    displaceWrite i r a e c s = composeWrite i r a a.queue c (s.displaced i a.queue e c) := by
  refine congrArg (composeWrite i r a a.queue c) ?_
  simp [State.displaced, State.raiseLost, State.updFlags, State.setPut, State.setQueue, State.setCell, State.queue]

/-- The displaced cell is freshly OPEN. -/
theorem State.displaced_cell {s : State} (i : InitId) (q : QueueId) (e : EntryId) {c : Nat} (hc : c < s.cells.length) :
    (s.displaced i q e c).cell c = Cell.opening q none :=
  State.setCell_cell_self s hc (Cell.opening q none)

/-- The access keeps its queue's configuration through the displacement, so the memory request is that of `s` (R33, R50). -/
theorem State.displaced_cellWord (s : State) (i : InitId) (r : Request) (a : QueueAccess) (e : EntryId) (c : Nat)
    (use : CellUse) : (s.displaced i a.queue e c).cellWord i r a a.queue c use = s.cellWord i r a a.queue c use := by
  simp [State.cellWord, State.displaced, State.queue]

/-- A displacing write of a cell of the pool hands over the memory request in the state after the displacement, with the
cell's first words recorded (R75). -/
theorem displaceWrite_eq_handOver (i : InitId) (r : Request) (a : QueueAccess) (e : EntryId) {c : Nat} {s : State}
    (hc : c < s.cells.length) :
    displaceWrite i r a e c s =
      handOver (s.cellWord i r a a.queue c (.compose (a.closing r.body.count)))
        ((s.displaced i a.queue e c).setCell c { Cell.opening a.queue none with
          written := some (writtenBits a.first r.body.writeBeats), inFlight := 1 }) := by
  have hpool : c < (s.displaced i a.queue e c).cells.length := by simpa [State.displaced] using hc
  rw [displaceWrite_eq_composeWrite, composeWrite_opening i r a a.queue hpool (State.displaced_cell i a.queue e hc),
    State.displaced_cellWord]

/-! ### The obligation -/

/-- Settles O35: the choice is the search of the committed list; the write reaches the policy, displaces the chosen cell, and
the two writes of the cell (becoming OPEN, then the first words) are one. -/
theorem oldestDisplaced : Obligations.OldestDisplaced := by
  refine ⟨State.eligible_eq_some_iff, fun s i r a e c hturn hwrite hbind henabled hfree hfull hpolicy hcell => ?_⟩
  have hc : c < (s.take i).cells.length := State.lt_length_of_eligible hcell
  rw [exec_putWindowWrite_opening hturn hwrite hbind, openingWrite_full i r henabled hfree hfull,
    fullWrite_displaceOldest i r e hpolicy hcell, displaceWrite_eq_handOver i r a e hc]
  simp only [State.displaced, State.setCell, List.set_set]
  rfl

end Sys2Proof.Machine
end

section
/-! PROOF. COUNTERS_CLEAR, and what else can lower a counter (R17, R107). A counter stands in a Queue Context, so most of the
part cannot touch one: the first lemmas say which operations leave every Queue Context as it is. The others change contexts
without lowering a counter: `CountersLe` is the order they respect, and a command that respects it answers `CountersKept`. -/

namespace Sys2Proof.Machine

/-! ### Operations that leave every Queue Context as it is -/

@[simp] theorem acceptOffer_queues (i : InitId) (s : State) : (acceptOffer i s).queues = s.queues := by
  rw [acceptOffer_eq]
@[simp] theorem offerRequest_queues (i : InitId) (r : Request) (s : State) : (offerRequest i r s).queues = s.queues := rfl
@[simp] theorem respond_queues (i : InitId) (code : RespCode) (data : List Word) (s : State) :
    (respond i code data s).queues = s.queues := by
  rw [respond_eq, State.port_queues]
@[simp] theorem State.record_queues (s : State) (kind : FaultKind) (i : InitId) (addr : Addr) (aperture : Option ApId)
    (queue : Option QueueId) : (s.record kind i addr aperture queue).queues = s.queues :=
  s.appendRecord_queues _
@[simp] theorem State.recordDenied_queues (s : State) (queue : Option QueueId) :
    (s.recordDenied queue).queues = s.queues :=
  s.appendRecord_queues _
@[simp] theorem respondFault_queues (kind : FaultKind) (i : InitId) (addr : Addr) (aperture : Option ApId)
    (queue : Option QueueId) (data : List Word) (s : State) :
    (respondFault kind i addr aperture queue data s).queues = s.queues :=
  (respond_queues i .fault data _).trans (s.record_queues kind i addr aperture queue)
@[simp] theorem queueFault_queues (kind : FaultKind) (i : InitId) (r : Request) (a : QueueAccess) (data : List Word)
    (s : State) : (queueFault kind i r a data s).queues = s.queues :=
  respondFault_queues kind i r.addr _ _ data s
@[simp] theorem memoryFault_queues (x : CellAccess) (r : Request) (a : QueueAccess) (s : State) :
    (memoryFault x r a s).queues = s.queues :=
  respondFault_queues .memory x.init r.addr _ _ _ s
@[simp] theorem mergeFault_queues (kind : FaultKind) (i : InitId) (m : MergeAccess) (s : State) :
    (mergeFault kind i m s).queues = s.queues :=
  respondFault_queues kind i m.req.addr _ _ _ s
@[simp] theorem answerAccess_queues (x : CellAccess) (r : Request) (a : QueueAccess) (beats : List MemBeat) (s : State) :
    (answerAccess x r a beats s).queues = s.queues := by
  unfold answerAccess; split <;> simp
@[simp] theorem answerEmpty_queues (i : InitId) (r : Request) (q : QueueId) (s : State) :
    (answerEmpty i r q s).queues = s.queues :=
  respond_queues i _ _ s

@[simp] theorem present_queues (s : State) : (present s).queues = s.queues := by rw [present_eq]
@[simp] theorem issue_queues (r : MemReq) (s : State) : (issue r s).queues = s.queues := by rw [issue_eq]
@[simp] theorem retireHead_queues (s : State) : (retireHead s).queues = s.queues := by rw [retireHead_eq]
@[simp] theorem handOver_queues (r : MemReq) (s : State) : (handOver r s).queues = s.queues := by rw [handOver_eq]
@[simp] theorem takeLock_queues (i : InitId) (word : Addr) (s : State) : (takeLock i word s).queues = s.queues := rfl
@[simp] theorem settleWaiters_queues (s : State) : (settleWaiters s).queues = s.queues := by rw [settleWaiters_eq]
@[simp] theorem releaseLock_queues (i : InitId) (s : State) : (releaseLock i s).queues = s.queues := by rw [releaseLock_eq]
@[simp] theorem setStage_queues (i : InitId) (stage : BeatStage) (s : State) : (setStage i stage s).queues = s.queues := rfl
@[simp] theorem lockWriting_queues (i : InitId) (s : State) : (lockWriting i s).queues = s.queues := rfl
@[simp] theorem invalidate_queues (i : InitId) (s : State) : (invalidate i s).queues = s.queues := rfl
@[simp] theorem endMerge_queues (i : InitId) (s : State) : (endMerge i s).queues = s.queues :=
  releaseLock_queues i _
@[simp] theorem beatComputed_queues (i : InitId) (m : MergeAccess) (j : Nat) (old : Word) (s : State) :
    (beatComputed i m j old s).queues = s.queues := by
  unfold beatComputed; dsimp only; split <;> simp

@[simp] theorem appendFree_queues (c : Nat) (s : State) : (appendFree c s).queues = s.queues := rfl
@[simp] theorem incFlight_queues (c : Nat) (s : State) : (incFlight c s).queues = s.queues := rfl
@[simp] theorem decFlight_queues (c : Nat) (s : State) : (decFlight c s).queues = s.queues := rfl
@[simp] theorem releasePin_queues (c : Nat) (s : State) : (releasePin c s).1.queues = s.queues := by rw [releasePin_eq]
@[simp] theorem composeWrite_queues (i : InitId) (r : Request) (a : QueueAccess) (target : QueueId) (c : Nat) (s : State) :
    (composeWrite i r a target c s).queues = s.queues := by
  rw [composeWrite_eq]
@[simp] theorem takeRead_queues (i : InitId) (r : Request) (a : QueueAccess) (c : Nat) (s : State) :
    (takeRead i r a c s).queues = s.queues := by
  rw [takeRead_eq]
@[simp] theorem putRead_queues (i : InitId) (r : Request) (a : QueueAccess) (target : QueueId) (c : Nat) (s : State) :
    (putRead i r a target c s).queues = s.queues :=
  handOver_queues _ _
@[simp] theorem pinAndRead_queues (i : InitId) (r : Request) (a : QueueAccess) (c : Nat) (s : State) :
    (pinAndRead i r a c s).queues = s.queues :=
  handOver_queues _ _
@[simp] theorem bindTake_queues (i : InitId) (r : Request) (a : QueueAccess) (e : EntryId) (c : Nat) (s : State) :
    (bindTake i r a e c s).queues = s.queues :=
  takeRead_queues i r a c _
@[simp] theorem park_queues (kind : HeldKind) (i : InitId) (r : Request) (a : QueueAccess) (wait : BitVec 16) (s : State) :
    (park kind i r a wait s).queues = s.queues := by
  rw [park_eq]
@[simp] theorem serve_queues (k : SlotId) (x : Slot) (c : Nat) (s : State) : (serve k x c s).queues = s.queues := by
  rw [serve_eq]; rfl
@[simp] theorem serveTakes_queues (q : QueueId) (s : State) : (serveTakes q s).queues = s.queues := by
  rw [serveTakes_eq]; rfl
@[simp] theorem freePutBinding_queues (i : InitId) (q : QueueId) (s : State) : (freePutBinding i q s).queues = s.queues := by
  unfold freePutBinding; split <;> rfl
@[simp] theorem freeTakeBinding_queues (i : InitId) (q : QueueId) (s : State) :
    (freeTakeBinding i q s).queues = s.queues := by
  unfold freeTakeBinding; split <;> rfl
@[simp] theorem dropAccess_queues (x : CellAccess) (s : State) : (dropAccess x s).queues = s.queues := by
  unfold dropAccess; split <;> simp
@[simp] theorem dropWaiter_queues (s : State) (w : Waiter) : (dropWaiter s w).queues = s.queues := by
  unfold dropWaiter; split <;> simp
@[simp] theorem requeueBound_queues (s : State) (e : EntryId) : (requeueBound s e).queues = s.queues := by
  unfold requeueBound
  repeat' split
  all_goals rfl
@[simp] theorem dropRecord_queues (s : State) : (dropRecord s).queues = s.queues := by
  unfold dropRecord
  repeat' split
  all_goals rfl
@[simp] theorem checkWatermark_queues (s : State) (q : QueueId) : (s.checkWatermark q).queues = s.queues := by
  unfold State.checkWatermark; split <;> rfl
@[simp] theorem eventsWritten_queues (q : QueueId) (b : WriteBeat) (s : State) :
    (eventsWritten q b s).queues = s.queues := by
  unfold eventsWritten; split <;> rfl
@[simp] theorem returnBinding_queues (i : InitId) (q : QueueId) (s : State) : (returnBinding i q s).queues = s.queues := by
  unfold returnBinding
  repeat' split
  all_goals simp
@[simp] theorem boundWrite_queues (i : InitId) (r : Request) (a : QueueAccess) (e : EntryId) (b : PutBinding) (s : State) :
    (boundWrite i r a e b s).queues = s.queues := by
  unfold boundWrite
  repeat' split
  all_goals simp
@[simp] theorem putWindowRead_queues (i : InitId) (r : Request) (a : QueueAccess) (s : State) :
    (putWindowRead i r a s).queues = s.queues := by
  unfold putWindowRead
  repeat' split
  all_goals simp
@[simp] theorem boundTake_queues (i : InitId) (r : Request) (a : QueueAccess) (e : EntryId) (b : TakeBinding) (s : State) :
    (boundTake i r a e b s).queues = s.queues := by
  unfold boundTake
  repeat' split
  all_goals simp
@[simp] theorem peekWindowRead_queues (i : InitId) (r : Request) (a : QueueAccess) (s : State) :
    (peekWindowRead i r a s).queues = s.queues := by
  unfold peekWindowRead
  repeat' split
  all_goals simp
@[simp] theorem clockBytes_queues (n : Nat) (left : List Byte) (s : State) : (clockBytes n left s).queues = s.queues := rfl
@[simp] theorem State.releaseSelect_queues (s : State) : s.releaseSelect.queues = s.queues := rfl
@[simp] theorem State.sendMdo_queues (s : State) (clocks : Nat) : (s.sendMdo clocks).queues = s.queues := rfl

/-! ### The order of counters -/

/-- A saturating count never falls (R17). -/
theorem toNat_le_satInc {w : Nat} (x : BitVec w) : x.toNat ≤ (satInc x).toNat := by
  unfold satInc
  split
  · exact le_rfl
  next hmax =>
    have hne : x.toNat ≠ 2 ^ w - 1 := fun h => hmax (BitVec.eq_of_toNat_eq (by rw [h, BitVec.toNat_allOnes]))
    have hlt : x.toNat + 1 < 2 ^ w := by have := x.isLt; omega
    rw [BitVec.toNat_add, BitVec.toNat_ofNat, Nat.add_mod_mod, Nat.mod_eq_of_lt hlt]
    omega

/-- No counter of `x` stands above that of `y`. -/
structure QueueCtx.CountersLe (x y : QueueCtx) : Prop where
  lost : x.lost.toNat ≤ y.lost.toNat
  underrun : x.underrun.toNat ≤ y.underrun.toNat
  expired : x.expired.toNat ≤ y.expired.toNat
  divertedOut : x.divertedOut.toNat ≤ y.divertedOut.toNat

/-- No counter of any queue stands higher in `v` than in `w`. -/
def CountersLe (v w : Vector QueueCtx 16) : Prop := ∀ q : QueueId, v[q].CountersLe w[q]

@[simp] theorem CountersLe.refl (v : Vector QueueCtx 16) : CountersLe v v := fun _ => ⟨le_rfl, le_rfl, le_rfl, le_rfl⟩

theorem CountersLe.of_eq {v w : Vector QueueCtx 16} (h : w = v) : CountersLe v w := h ▸ .refl w

theorem CountersLe.trans {u v w : Vector QueueCtx 16} (h : CountersLe u v) (h' : CountersLe v w) : CountersLe u w :=
  fun q => ⟨(h q).lost.trans (h' q).lost, (h q).underrun.trans (h' q).underrun, (h q).expired.trans (h' q).expired,
    (h q).divertedOut.trans (h' q).divertedOut⟩

/-- A write of one context that lowers none of its counters lowers none at all. -/
theorem setQueue_counters (s : State) (q : QueueId) {x : QueueCtx} (hx : (s.queue q).CountersLe x) :
    CountersLe s.queues (s.setQueue q x).queues := by
  intro p
  by_cases hpq : p = q
  · subst hpq
    simpa [State.queue] using hx
  · have hval : (q : Nat) ≠ p := fun h => hpq (Fin.ext h.symm)
    simpa [hval] using CountersLe.refl s.queues p

/-- A run of operations that each lower no counter lowers none. -/
theorem foldl_counters {α : Type} {f : State → α → State} (hf : ∀ s a, CountersLe s.queues (f s a).queues) (l : List α)
    (s : State) : CountersLe s.queues (l.foldl f s).queues := by
  induction l generalizing s with
  | nil => exact .refl _
  | cons a l ih => exact (hf s a).trans (ih (f s a))

/-! ### Operations that change a Queue Context -/

theorem raiseLost_counters (s : State) (q : QueueId) : CountersLe s.queues (s.raiseLost q).queues := by
  refine setQueue_counters s q ?_
  exact ⟨toNat_le_satInc _, le_rfl, le_rfl, le_rfl⟩

theorem raiseUnderrun_counters (s : State) (q : QueueId) : CountersLe s.queues (s.raiseUnderrun q).queues := by
  refine setQueue_counters s q ?_
  exact ⟨le_rfl, toNat_le_satInc _, le_rfl, le_rfl⟩

theorem raiseExpired_counters (s : State) (q : QueueId) : CountersLe s.queues (s.raiseExpired q).queues := by
  refine setQueue_counters s q ?_
  exact ⟨le_rfl, le_rfl, toNat_le_satInc _, le_rfl⟩

theorem raiseDiverted_counters (s : State) (q : QueueId) : CountersLe s.queues (s.raiseDiverted q).queues := by
  refine setQueue_counters s q ?_
  exact ⟨le_rfl, le_rfl, le_rfl, toNat_le_satInc _⟩

theorem incOpen_counters (q : QueueId) (s : State) : CountersLe s.queues (incOpen q s).queues := by
  refine setQueue_counters s q ?_
  exact ⟨le_rfl, le_rfl, le_rfl, le_rfl⟩

theorem decOpen_counters (q : QueueId) (s : State) : CountersLe s.queues (decOpen q s).queues := by
  refine setQueue_counters s q ?_
  exact ⟨le_rfl, le_rfl, le_rfl, le_rfl⟩

/-- An opening write counts its OPEN cell alone (R31). -/
theorem openWrite_counters (i : InitId) (r : Request) (a : QueueAccess) (target : QueueId) (origin : Option QueueId)
    (e : EntryId) (s : State) : CountersLe s.queues (openWrite i r a target origin e s).queues := by
  obtain ⟨_, hnone⟩ | ⟨c, rest, _, hsome⟩ := allocate_eq target origin s
  · simp [openWrite, hnone]
  · simp only [openWrite, hsome, composeWrite_queues, State.setPut_queues]
    exact incOpen_counters target s

theorem grant_counters (k : SlotId) (x : Slot) (s : State) : CountersLe s.queues (grant k x s).queues := by
  unfold grant
  dsimp only
  split
  · simp
  · exact openWrite_counters _ _ _ _ _ _ (s.vacate k)

theorem grantLoop_counters (n : Nat) (s : State) : CountersLe s.queues (grantLoop n s).queues := by
  induction n generalizing s with
  | zero => exact .refl _
  | succ n ih =>
    unfold grantLoop
    split
    · exact .refl _
    next k x _ => exact (grant_counters k x s).trans (ih (grant k x s))

/-- Room offered to the held puts counts OPEN cells alone (R92). -/
theorem offerRoom_counters (s : State) : CountersLe s.queues (offerRoom s).queues := by
  unfold offerRoom
  split
  · exact .refl _
  · exact grantLoop_counters _ s

/-- The completion of a flush empties the committed list, restores the state and offers the room (R111). -/
theorem completeFlush_counters (q : QueueId) (s : State) : CountersLe s.queues (completeFlush q s).queues := by
  unfold completeFlush
  dsimp only
  refine CountersLe.trans ?_ (offerRoom_counters _)
  refine CountersLe.trans (.of_eq ?_) (setQueue_counters _ q ?_)
  · dsimp only
    rw [appendFree_foldl_eq]
  · exact ⟨le_rfl, le_rfl, le_rfl, le_rfl⟩

theorem tryFlush_counters (q : QueueId) (s : State) : CountersLe s.queues (tryFlush q s).queues := by
  unfold tryFlush
  split
  · exact completeFlush_counters q s
  · exact .refl _

theorem tryFlushOwner_counters (owner : Option QueueId) (s : State) :
    CountersLe s.queues (tryFlushOwner owner s).queues := by
  unfold tryFlushOwner
  split
  · exact tryFlush_counters _ s
  · exact .refl _

/-- The end of the reset drain completes the pending flushes (R25). -/
theorem endDrain_counters (s : State) : CountersLe s.queues (endDrain s).queues :=
  foldl_counters (fun s q => tryFlush_counters q s) upTo16 { s with drain := false }

theorem settleDrain_counters (s : State) : CountersLe s.queues (settleDrain s).queues := by
  unfold settleDrain
  split
  · exact endDrain_counters s
  · exact .refl _

/-- A dropped write counts its message lost (R72). -/
theorem dropWrite_counters (i : InitId) (r : Request) (a : QueueAccess) (e : EntryId) (s : State) :
    CountersLe s.queues (dropWrite i r a e s).queues := by
  rw [dropWrite_eq]
  exact raiseLost_counters s a.queue

/-! ### The put window -/

/-- A displacing write counts the displaced message lost (R75). -/
theorem displaceWrite_counters (i : InitId) (r : Request) (a : QueueAccess) (e : EntryId) (c : Nat) (s : State) :
    CountersLe s.queues (displaceWrite i r a e c s).queues := by
  rw [displaceWrite_eq_composeWrite, composeWrite_queues]
  refine setQueue_counters s a.queue ?_
  exact ⟨toNat_le_satInc _, le_rfl, le_rfl, le_rfl⟩

/-- Each overflow policy counts what becomes of the message: lost, diverted, or nothing yet (R71). -/
theorem fullWrite_counters (i : InitId) (r : Request) (a : QueueAccess) (e : EntryId) (s : State) :
    CountersLe s.queues (fullWrite i r a e s).queues := by
  unfold fullWrite
  repeat' split
  · exact dropWrite_counters i r a e s
  · exact displaceWrite_counters i r a e _ (s.take i)
  · exact dropWrite_counters i r a e s
  · exact (raiseDiverted_counters (s.take i) a.queue).trans (openWrite_counters i r a _ _ e _)
  · exact dropWrite_counters i r a e s
  · exact dropWrite_counters i r a e s
  · simp

theorem openingWrite_counters (i : InitId) (r : Request) (a : QueueAccess) (s : State) :
    CountersLe s.queues (openingWrite i r a s).queues := by
  unfold openingWrite
  repeat' split
  · simp
  · simp
  · simp
  · exact fullWrite_counters i r a _ s
  · exact openWrite_counters i r a _ _ _ (s.take i)

theorem putWrite_counters (i : InitId) (r : Request) (a : QueueAccess) (s : State) :
    CountersLe s.queues (putWrite i r a s).queues := by
  unfold putWrite
  repeat' split
  · simp
  · exact openingWrite_counters i r a s
  · simp

/-! ### Acknowledgements of cell accesses -/

/-- The end of an acknowledgement, the test of a flush, after a state with the Queue Contexts of `s`. -/
theorem tryFlushOwner_counters_of_eq {s t : State} (h : t.queues = s.queues) (owner : Option QueueId) :
    CountersLe s.queues (tryFlushOwner owner t).queues :=
  CountersLe.trans (.of_eq h) (tryFlushOwner_counters owner t)

theorem composeAck_counters (x : CellAccess) (r : Request) (a : QueueAccess) (beats : List MemBeat) (s : State) :
    CountersLe s.queues (composeAck x r a beats s).queues := by
  refine tryFlushOwner_counters_of_eq ?_ _
  split <;> simp

theorem readAck_counters (x : CellAccess) (r : Request) (a : QueueAccess) (beats : List MemBeat) (s : State) :
    CountersLe s.queues (readAck x r a beats s).queues :=
  tryFlushOwner_counters_of_eq (by simp) _

/-- A commit counts no event: it moves a cell and the sequence counter (R38, R39). -/
theorem commitCell_counters (q : QueueId) (c : Nat) (s : State) : CountersLe s.queues (commitCell q c s).queues := by
  unfold commitCell
  dsimp only
  rw [checkWatermark_queues]
  refine CountersLe.trans (.of_eq rfl) (setQueue_counters _ q ?_)
  exact ⟨le_rfl, le_rfl, le_rfl, le_rfl⟩

theorem closeAck_counters (x : CellAccess) (r : Request) (a : QueueAccess) (beats : List MemBeat) (s : State) :
    CountersLe s.queues (closeAck x r a beats s).queues := by
  unfold closeAck
  dsimp only
  refine CountersLe.trans ?_ (tryFlushOwner_counters _ _)
  generalize hu : freePutBinding x.init a.queue (decFlight x.cell (retireHead s)) = u
  have hqueues : u.queues = s.queues := by simp [← hu]
  rw [← hqueues]
  split
  · refine CountersLe.trans ?_ (offerRoom_counters _)
    rw [memoryFault_queues]
    exact decOpen_counters x.queue (appendFree x.cell u)
  · rw [serveTakes_queues, respond_queues]
    exact commitCell_counters x.queue x.cell u

/-- A retirement takes the cell off the committed list and may offer its room (R61). -/
theorem retireCell_counters (x : CellAccess) (s : State) : CountersLe s.queues (retireCell x s).queues := by
  unfold retireCell
  dsimp only
  generalize hu : freeTakeBinding x.init x.queue s = u
  have hqueues : u.queues = s.queues := by simp [← hu]
  rw [← hqueues]
  have hlist : CountersLe u.queues (u.updQueue x.queue fun y => { y with committed := y.committed.erase x.cell }).queues := by
    refine setQueue_counters u x.queue ?_
    exact ⟨le_rfl, le_rfl, le_rfl, le_rfl⟩
  split
  · refine CountersLe.trans ?_ (offerRoom_counters _)
    rw [appendFree_queues]
    exact hlist
  · exact hlist

theorem closeReadAck_counters (x : CellAccess) (r : Request) (a : QueueAccess) (beats : List MemBeat) (s : State) :
    CountersLe s.queues (closeReadAck x r a beats s).queues := by
  unfold closeReadAck
  dsimp only
  split
  · exact tryFlushOwner_counters_of_eq (by simp) _
  · refine CountersLe.trans ?_ (tryFlushOwner_counters _ _)
    exact CountersLe.trans (.of_eq (by simp)) (retireCell_counters x _)

theorem peekAnswer_counters (x : CellAccess) (r : Request) (a : QueueAccess) (beats : List MemBeat) (s : State) :
    CountersLe s.queues (peekAnswer x r a beats s).queues := by
  unfold peekAnswer
  dsimp only
  split
  · refine CountersLe.trans ?_ (tryFlushOwner_counters _ _)
    exact CountersLe.trans (.of_eq (by simp)) (offerRoom_counters _)
  · exact tryFlushOwner_counters_of_eq (by simp) _

/-! ### The take window and the control page -/

/-- A first take that finds the queue empty with no wait counts an underrun (R56). -/
theorem firstTake_counters (i : InitId) (r : Request) (a : QueueAccess) (s : State) :
    CountersLe s.queues (firstTake i r a s).queues := by
  unfold firstTake
  repeat' split
  · simp
  · simp
  · simp
  · simp
  · rw [respond_queues]
    exact raiseUnderrun_counters s a.queue
  · simp

theorem takeWindowRead_counters (i : InitId) (r : Request) (a : QueueAccess) (s : State) :
    CountersLe s.queues (takeWindowRead i r a s).queues := by
  unfold takeWindowRead
  repeat' split
  · simp
  · exact firstTake_counters i r a s
  · simp

/-- ABANDON of a composition lowers an open count and offers the room (R47). -/
theorem abandonBinding_counters (i : InitId) (q : QueueId) (s : State) :
    CountersLe s.queues (abandonBinding i q s).queues := by
  unfold abandonBinding
  repeat' split
  · exact .refl _
  next e b _ _ c _ => exact (decOpen_counters b.target (appendFree c (s.setPut e none))).trans (offerRoom_counters _)
  · simp
  · simp

theorem controlBeat_counters (i : InitId) (q : QueueId) (w : Nat) (b : WriteBeat) (s : State) :
    CountersLe s.queues (controlBeat i q w b s).queues := by
  unfold controlBeat
  split
  · exact abandonBinding_counters i q s
  · simp
  · simp
  · exact .refl _

theorem controlBeats_counters (i : InitId) (q : QueueId) (w : Nat) (bs : List WriteBeat) (s : State) :
    CountersLe s.queues (controlBeats i q w bs s).queues := by
  induction bs generalizing w s with
  | nil => exact .refl _
  | cons b bs ih => exact (controlBeat_counters i q w b s).trans (ih (w + 1) (controlBeat i q w b s))

/-! ### Waits -/

/-- A held take that expires counts an underrun and an expiry (R97). -/
theorem expireTake_counters (k : SlotId) (x : Slot) (s : State) : CountersLe s.queues (expireTake k x s).queues := by
  simp only [expireTake, respond_queues]
  exact (raiseUnderrun_counters (s.vacate k) x.queue).trans (raiseExpired_counters _ x.queue)

/-- A held put that expires counts an expiry and, where it is dropped, a loss (R98). -/
theorem expirePut_counters (k : SlotId) (x : Slot) (s : State) : CountersLe s.queues (expirePut k x s).queues := by
  have hraise := raiseExpired_counters (s.vacate k) x.queue
  unfold expirePut
  dsimp only
  split
  · rw [respondFault_queues]
    exact hraise
  · exact hraise.trans (dropWrite_counters _ _ _ _ _)

theorem expire_counters (k : SlotId) (x : Slot) (s : State) : CountersLe s.queues (expire k x s).queues := by
  unfold expire
  split
  · exact expireTake_counters k x s
  · exact expirePut_counters k x s

/-- The end of a tick counts what its expiries count (R87). -/
theorem advanceTick_counters (s : State) : CountersLe s.queues (advanceTick s).queues := by
  refine foldl_counters (fun u k => ?_) _ { s with tickCount := s.tickCount + 1#32, tickElapsed := 0 }
  repeat' split
  · exact expire_counters k _ u
  · exact .refl _
  · exact .refl _

/-! ### Queue commands -/

theorem writeConfig_counters (q : QueueId) (c : QueueConfig) (s : State) :
    CountersLe s.queues (writeConfig q c s).1.queues := by
  unfold writeConfig
  split
  · refine setQueue_counters s q ?_
    exact ⟨le_rfl, le_rfl, le_rfl, le_rfl⟩
  · simp

theorem enableQueue_counters (q : QueueId) (s : State) : CountersLe s.queues (enableQueue q s).1.queues := by
  unfold enableQueue
  split
  · simp
  · refine setQueue_counters s q ?_
    exact ⟨le_rfl, le_rfl, le_rfl, le_rfl⟩

/-- The release of the held requests of a queue lowers no counter when the release of one does not. -/
theorem releaseHeld_counters (q : QueueId) {f : SlotId → Slot → State → State}
    (hf : ∀ k x s, CountersLe s.queues (f k x s).queues) (s : State) :
    CountersLe s.queues (releaseHeld q f s).queues := by
  refine foldl_counters (fun u k => ?_) _ s
  repeat' split
  · exact hf k _ u
  · exact .refl _
  · exact .refl _

/-- A held take released by a disable counts an underrun (R99). -/
theorem releaseDisabled_counters (k : SlotId) (x : Slot) (s : State) :
    CountersLe s.queues (releaseDisabled k x s).queues := by
  unfold releaseDisabled
  dsimp only
  split
  · rw [respond_queues]
    exact raiseUnderrun_counters (s.vacate k) x.queue
  · simp

@[simp] theorem releaseFlushed_queues (k : SlotId) (x : Slot) (s : State) :
    (releaseFlushed k x s).queues = s.queues :=
  respond_queues x.init _ _ _

theorem disableQueue_counters (q : QueueId) (s : State) : CountersLe s.queues (disableQueue q s).queues := by
  unfold disableQueue
  split
  · refine CountersLe.trans (setQueue_counters s q ?_) (releaseHeld_counters q releaseDisabled_counters _)
    exact ⟨le_rfl, le_rfl, le_rfl, le_rfl⟩
  · exact .refl _

theorem startFlush_counters (q : QueueId) (s : State) : CountersLe s.queues (startFlush q s).queues := by
  unfold startFlush
  dsimp only
  refine CountersLe.trans ?_ (releaseHeld_counters q (fun k x u => .of_eq (releaseFlushed_queues k x u)) _)
  refine setQueue_counters s q ?_
  exact ⟨le_rfl, le_rfl, le_rfl, le_rfl⟩

theorem flushQueue_counters (q : QueueId) (s : State) : CountersLe s.queues (flushQueue q s).1.queues := by
  unfold flushQueue
  dsimp only
  split
  · exact (startFlush_counters q s).trans (completeFlush_counters q _)
  · exact startFlush_counters q s

/-! ### Apertures and the pool -/

theorem writeAperture_queues (k : ApId) (a : Aperture) (s : State) : (writeAperture k a s).1.queues = s.queues := by
  unfold writeAperture; split <;> simp

theorem enableAperture_queues (k : ApId) (s : State) : (enableAperture k s).1.queues = s.queues := by
  unfold enableAperture
  dsimp only
  repeat' split
  all_goals rfl

theorem configPool_queues (base : Addr) (n : Nat) (guardOn : Bool) (s : State) :
    (configPool base n guardOn s).1.queues = s.queues := by
  unfold configPool
  split
  · rfl
  · simp

/-! ### SYS_RESET -/

/-- A put binding freed by SYS_RESET lowers an open count (R25, step 1). -/
theorem freeBound_counters (s : State) (e : EntryId) : CountersLe s.queues (freeBound s e).queues := by
  unfold freeBound
  repeat' split
  · exact (decOpen_counters _ { s.updCell _ _ with freeList := _ } :)
  · exact .refl _
  · exact .refl _
  · exact .refl _

theorem resetTables_counters (s : State) : CountersLe s.queues (resetTables s).queues := by
  unfold resetTables
  dsimp only
  exact (foldl_counters freeBound_counters upTo16 s).trans
    (foldl_counters (fun u e => .of_eq (requeueBound_queues u e)) upTo16 _)

theorem assertSysReset_counters (s : State) : CountersLe s.queues (assertSysReset s).queues := by
  refine CountersLe.trans ?_ (settleDrain_counters _)
  exact (resetTables_counters (resetUnits { s with sysReset := true })).trans
    (foldl_counters (fun u w => .of_eq (dropWaiter_queues u w)) s.waiting _)

/-! ### Commands -/

/-- Where a command answers a next state, no counter of any queue is lower in it than in `s`. -/
def CountersKept (s : State) (o : Host.Outcome State Fault Refusal) : Prop := ∀ t, o = .next t → CountersLe s.queues t.queues

@[simp] theorem countersKept_next {s t : State} : CountersKept s (.next t) ↔ CountersLe s.queues t.queues :=
  ⟨fun h => h t rfl, fun h u hu => by cases hu; exact h⟩

@[simp] theorem countersKept_finish {s t : State} : CountersKept s (finish t) ↔ CountersLe s.queues t.queues :=
  countersKept_next

/-- A command that leaves every Queue Context as it is lowers no counter. -/
theorem countersKept_next_of_eq {s t : State} (h : t.queues = s.queues) : CountersKept s (.next t) :=
  countersKept_next.mpr (.of_eq h)

/-- What the bytes of a link command leave of the Queue Contexts: those of the frame, or those of the command's own work (R169
to R171). -/
theorem carryOut_queues {always : Bool} {code : Byte} {body : State → Option (State × LinkStatus × List Byte)} {s t : State}
    (h : carryOut always code body s = .next t) :
    t.queues = s.queues ∨ ∃ r, body s = some r ∧ t.queues = r.1.queues := by
  unfold carryOut at h
  split at h
  · cases h; exact .inl rfl
  · unfold decideLink at h
    split at h
    · cases h; exact .inl rfl
    · split at h
      · cases h; exact .inl rfl
      next r status data hbody => cases h; exact .inr ⟨_, hbody, rfl⟩
  · cases h; exact .inl rfl

/-- A link command whose own work lowers no counter lowers none. -/
theorem countersKept_carryOut {always : Bool} {code : Byte} {body : State → Option (State × LinkStatus × List Byte)}
    {s : State} (hbody : ∀ r ∈ body s, CountersLe s.queues r.1.queues) : CountersKept s (carryOut always code body s) := by
  intro t ht
  obtain h | ⟨r, hr, h⟩ := carryOut_queues ht
  · exact .of_eq h
  · rw [h]; exact hbody r hr

/-- A link command on the entry or queue that an index byte names. -/
theorem countersKept_carryOut_index {always : Bool} {code b : Byte} {f : Fin 16 → State → State × LinkStatus × List Byte}
    {s : State} (hf : ∀ k, CountersLe s.queues (f k s).1.queues) :
    CountersKept s (carryOut always code (fun s => (index16? b).map (fun k => f k s)) s) :=
  countersKept_carryOut (Option.forall_mem_map.mpr fun k _ => hf k)

/-! #### The system port -/

theorem execRequestAccept_counters (i : InitId) (offer : Option Request) (s : State) :
    CountersKept s (execRequestAccept i offer s) := by
  unfold execRequestAccept
  repeat' split
  all_goals simp

theorem execAdRefusalAnswer_counters (i : InitId) (s : State) : CountersKept s (execAdRefusalAnswer i s) := by
  unfold execAdRefusalAnswer
  repeat' split
  all_goals simp

theorem execPassThrough_counters (i : InitId) (s : State) : CountersKept s (execPassThrough i s) := by
  unfold execPassThrough
  repeat' split
  all_goals simp

theorem execPassThroughAck_counters (beats : List MemBeat) (s : State) :
    CountersKept s (execPassThroughAck beats s) := by
  unfold execPassThroughAck
  repeat' split
  all_goals simp

theorem execSummaryRead_counters (i : InitId) (s : State) : CountersKept s (execSummaryRead i s) := by
  unfold execSummaryRead
  repeat' split
  all_goals simp

/-! #### The windows -/

/-- An acknowledgement of a cell access that is the command's own lowers no counter when its work does not. -/
theorem countersKept_cellAck {s : State} {o : Option (CellAccess × Request × QueueAccess)} {p : CellAccess → Prop}
    [DecidablePred p] {f : CellAccess → Request → QueueAccess → State}
    (hf : ∀ x r a, CountersLe s.queues (f x r a).queues) :
    CountersKept s (match o with
      | some (x, r, a) => if p x then finish (f x r a) else .next s
      | none => .next s) := by
  repeat' split
  · exact countersKept_finish.mpr (hf _ _ _)
  · simp
  · simp

theorem execPutWindowWrite_counters (i : InitId) (s : State) : CountersKept s (execPutWindowWrite i s) := by
  unfold execPutWindowWrite
  repeat' split
  · exact countersKept_finish.mpr (putWrite_counters i _ _ s)
  · simp
  · simp

theorem execCompositionWriteAck_counters (beats : List MemBeat) (s : State) :
    CountersKept s (execCompositionWriteAck beats s) :=
  countersKept_cellAck (fun x r a => composeAck_counters x r a beats s)

theorem execClosingWriteAck_counters (beats : List MemBeat) (s : State) :
    CountersKept s (execClosingWriteAck beats s) :=
  countersKept_cellAck (fun x r a => closeAck_counters x r a beats s)

theorem execPutWindowRead_counters (i : InitId) (s : State) : CountersKept s (execPutWindowRead i s) := by
  unfold execPutWindowRead
  repeat' split
  all_goals simp

theorem execPutWindowReadAck_counters (beats : List MemBeat) (s : State) :
    CountersKept s (execPutWindowReadAck beats s) :=
  countersKept_cellAck (fun x r a => readAck_counters x r a beats s)

theorem execTakeWindowRead_counters (i : InitId) (s : State) : CountersKept s (execTakeWindowRead i s) := by
  unfold execTakeWindowRead
  repeat' split
  · simp
  · exact countersKept_finish.mpr (takeWindowRead_counters i _ _ s)
  · simp

theorem execTakeReadAck_counters (beats : List MemBeat) (s : State) :
    CountersKept s (execTakeReadAck beats s) :=
  countersKept_cellAck (fun x r a => readAck_counters x r a beats s)

theorem execClosingReadAck_counters (beats : List MemBeat) (s : State) :
    CountersKept s (execClosingReadAck beats s) :=
  countersKept_cellAck (fun x r a => closeReadAck_counters x r a beats s)

theorem execPeekRead_counters (i : InitId) (s : State) : CountersKept s (execPeekRead i s) := by
  unfold execPeekRead
  repeat' split
  all_goals simp

theorem execPeekAck_counters (beats : List MemBeat) (s : State) :
    CountersKept s (execPeekAck beats s) :=
  countersKept_cellAck (fun x r a => peekAnswer_counters x r a beats s)

/-! #### The control page -/

theorem controlWriteIf_counters (p : List Nat → Bool) (i : InitId) (s : State) :
    CountersKept s (controlWriteIf p i s) := by
  unfold controlWriteIf
  repeat' split
  next a bs _ _ =>
    rw [countersKept_finish, performControlWrite, respond_queues]
    exact controlBeats_counters i a.queue a.first bs s
  · simp
  · simp

theorem execControlWordWrite_counters (i : InitId) (s : State) : CountersKept s (execControlWordWrite i s) :=
  controlWriteIf_counters _ i s

theorem execControlPageRead_counters (i : InitId) (s : State) : CountersKept s (execControlPageRead i s) := by
  unfold execControlPageRead
  repeat' split
  all_goals simp

/-! #### The Merge Unit and the memory port -/

theorem execMergeRead_counters (i : InitId) (s : State) : CountersKept s (execMergeRead i s) := by
  unfold execMergeRead
  repeat' split
  all_goals simp

theorem execMergeReadAck_counters (beats : List MemBeat) (s : State) : CountersKept s (execMergeReadAck beats s) := by
  unfold execMergeReadAck
  repeat' split
  all_goals simp

theorem execMergeWrite_counters (i : InitId) (s : State) : CountersKept s (execMergeWrite i s) := by
  unfold execMergeWrite
  repeat' split
  all_goals simp

theorem execMergeBeatLock_counters (i : InitId) (s : State) : CountersKept s (execMergeBeatLock i s) := by
  unfold execMergeBeatLock
  split
  · dsimp only
    split <;> simp
  · simp

theorem execMergeBeatReadIssue_counters (i : InitId) (s : State) : CountersKept s (execMergeBeatReadIssue i s) := by
  unfold execMergeBeatReadIssue
  split
  · dsimp only
    split <;> simp
  · simp

theorem execMergeBeatReadAck_counters (beats : List MemBeat) (s : State) :
    CountersKept s (execMergeBeatReadAck beats s) := by
  unfold execMergeBeatReadAck
  repeat' split
  all_goals simp

theorem execMergeBeatWriteAck_counters (beats : List MemBeat) (s : State) :
    CountersKept s (execMergeBeatWriteAck beats s) := by
  unfold execMergeBeatWriteAck
  repeat' split
  all_goals simp

/-! #### Waits -/

theorem execTickAdvance_counters (s : State) : CountersKept s (execTickAdvance s) := by
  unfold execTickAdvance
  split
  · simp
  · exact countersKept_finish.mpr (advanceTick_counters s)

theorem execHeldTakeExpiry_counters (i : InitId) (s : State) : CountersKept s (execHeldTakeExpiry i s) := by
  unfold execHeldTakeExpiry
  split
  · exact countersKept_finish.mpr (expireTake_counters _ _ s)
  · simp

theorem execHeldPutExpiry_counters (i : InitId) (s : State) : CountersKept s (execHeldPutExpiry i s) := by
  unfold execHeldPutExpiry
  split
  · exact countersKept_finish.mpr (expirePut_counters _ _ s)
  · simp

theorem execHeldPutGrant_counters (s : State) : CountersKept s (execHeldPutGrant s) := by
  unfold execHeldPutGrant
  repeat' split
  · simp
  · exact countersKept_finish.mpr (grant_counters _ _ s)
  · simp

theorem execHeldTakeService_counters (q : QueueId) (s : State) : CountersKept s (execHeldTakeService q s) := by
  unfold execHeldTakeService
  repeat' split
  all_goals simp

theorem execFlushCompletion_counters (q : QueueId) (s : State) : CountersKept s (execFlushCompletion q s) := by
  unfold execFlushCompletion
  split
  · exact countersKept_finish.mpr (completeFlush_counters q s)
  · simp

/-! #### Resets -/

theorem execSysResetAssert_counters (s : State) : CountersKept s (execSysResetAssert s) := by
  unfold execSysResetAssert
  repeat' split
  · simp
  · simp
  · exact countersKept_finish.mpr (assertSysReset_counters s)

theorem execResetDrainEnd_counters (s : State) : CountersKept s (execResetDrainEnd s) := by
  unfold execResetDrainEnd
  split
  · exact countersKept_finish.mpr (endDrain_counters s)
  · simp

/-- The last acknowledgement that a reset drain awaits completes the pending flush (R25). -/
theorem execDiscardedAck_counters (beats : List MemBeat) (s : State) : CountersKept s (execDiscardedAck beats s) := by
  unfold execDiscardedAck
  repeat' split
  · simp
  · simp
  · rw [countersKept_finish]
    exact CountersLe.trans (.of_eq (by simp)) (settleDrain_counters _)
  all_goals simp

theorem execPwrResetRelease_counters (s : State) : CountersKept s (execPwrResetRelease s) := by
  unfold execPwrResetRelease
  repeat' split
  all_goals simp

/-! #### Frames -/

theorem execFrameStart_counters (s : State) : CountersKept s (execFrameStart s) := by
  unfold execFrameStart
  repeat' split
  all_goals simp

theorem execFrameEnd_counters (s : State) : CountersKept s (execFrameEnd s) := by
  unfold execFrameEnd
  repeat' split
  all_goals simp

theorem execFrameAbort_counters (s : State) : CountersKept s (execFrameAbort s) := by
  unfold execFrameAbort
  repeat' split
  all_goals simp

theorem execResponseCut_counters (s : State) : CountersKept s (execResponseCut s) := by
  unfold execResponseCut
  repeat' split
  all_goals simp

theorem execUnknownCommand_counters (code : Byte) (s : State) : CountersKept s (execUnknownCommand code s) := by
  unfold execUnknownCommand
  repeat' split
  all_goals simp [answerLink]

/-! #### Link commands -/

theorem execIdentify_counters (s : State) : CountersKept s (execIdentify s) := countersKept_carryOut (by simp)

theorem execStatus_counters (s : State) : CountersKept s (execStatus s) := countersKept_carryOut (by simp)

theorem execApertureRead_counters (b : Byte) (s : State) : CountersKept s (execApertureRead b s) :=
  countersKept_carryOut_index (fun _ => .refl _)

theorem execApertureWrite_counters (b : Byte) (im : ApertureImage) (s : State) :
    CountersKept s (execApertureWrite b im s) := by
  refine countersKept_carryOut ?_
  split
  next k a _ _ => simpa using .of_eq (writeAperture_queues k a s)
  · simp

theorem execApertureEnable_counters (b : Byte) (s : State) : CountersKept s (execApertureEnable b s) :=
  countersKept_carryOut_index (fun k => .of_eq (enableAperture_queues k s))

theorem execApertureDisable_counters (b : Byte) (s : State) : CountersKept s (execApertureDisable b s) :=
  countersKept_carryOut_index (fun _ => .refl _)

theorem execQueueConfigRead_counters (b : Byte) (s : State) : CountersKept s (execQueueConfigRead b s) :=
  countersKept_carryOut_index (fun _ => .refl _)

theorem execQueueConfigWrite_counters (b : Byte) (im : ConfigImage) (s : State) :
    CountersKept s (execQueueConfigWrite b im s) := by
  refine countersKept_carryOut ?_
  split
  next q c _ _ => simpa using writeConfig_counters q c s
  · simp

theorem execQueueEnable_counters (b : Byte) (s : State) : CountersKept s (execQueueEnable b s) :=
  countersKept_carryOut_index (fun q => enableQueue_counters q s)

theorem execQueueDisable_counters (b : Byte) (s : State) : CountersKept s (execQueueDisable b s) :=
  countersKept_carryOut_index (fun q => disableQueue_counters q s)

theorem execQueueFlush_counters (b : Byte) (s : State) : CountersKept s (execQueueFlush b s) :=
  countersKept_carryOut_index (fun q => flushQueue_counters q s)

theorem execQueueStateRead_counters (b : Byte) (s : State) : CountersKept s (execQueueStateRead b s) :=
  countersKept_carryOut_index (fun _ => .refl _)

theorem execEventsClear_counters (b sel : Byte) (s : State) : CountersKept s (execEventsClear b sel s) := by
  refine countersKept_carryOut ?_
  split <;> simp

theorem execPoolConfig_counters (base : Addr) (cells : BitVec 16) (guardEnable : Byte) (s : State) :
    CountersKept s (execPoolConfig base cells guardEnable s) := by
  refine countersKept_carryOut ?_
  split
  next b n g _ _ _ => simpa using .of_eq (configPool_queues b n g s)
  · simp

theorem execTickConfig_counters (intervalMinusOne : BitVec 16) (s : State) :
    CountersKept s (execTickConfig intervalMinusOne s) :=
  countersKept_carryOut (by simp)

theorem execSteerOn_counters (s : State) : CountersKept s (execSteerOn s) := countersKept_carryOut (by simp)

theorem execSteerOff_counters (s : State) : CountersKept s (execSteerOff s) := by
  refine countersKept_carryOut ?_
  repeat' split
  all_goals simp

theorem execLineConfig_counters (routing : Byte) (s : State) : CountersKept s (execLineConfig routing s) :=
  countersKept_carryOut (Option.forall_mem_map.mpr fun _ _ => .refl _)

theorem execFaultPeek_counters (s : State) : CountersKept s (execFaultPeek s) := countersKept_carryOut (by simp)

theorem execFaultDrop_counters (s : State) : CountersKept s (execFaultDrop s) := countersKept_carryOut (by simp)

/-- Apart from COUNTERS_CLEAR and PWR_RESET no command lowers a counter. -/
theorem exec_counters (c : Instr) (s : State) (hclear : ∀ b, c ≠ .countersClear b) (hreset : c ≠ .pwrResetAssert) :
    CountersKept s (exec c s) := by
  cases c with
  | requestAccept i offer => exact execRequestAccept_counters i offer s
  | adRefusalAnswer i => exact execAdRefusalAnswer_counters i s
  | passThrough i => exact execPassThrough_counters i s
  | passThroughAck beats => exact execPassThroughAck_counters beats s
  | putWindowWrite i => exact execPutWindowWrite_counters i s
  | compositionWriteAck beats => exact execCompositionWriteAck_counters beats s
  | closingWriteAck beats => exact execClosingWriteAck_counters beats s
  | putWindowRead i => exact execPutWindowRead_counters i s
  | putWindowReadAck beats => exact execPutWindowReadAck_counters beats s
  | takeWindowRead i => exact execTakeWindowRead_counters i s
  | takeReadAck beats => exact execTakeReadAck_counters beats s
  | closingReadAck beats => exact execClosingReadAck_counters beats s
  | peekRead i => exact execPeekRead_counters i s
  | peekAck beats => exact execPeekAck_counters beats s
  | abandon i => exact controlWriteIf_counters _ i s
  | returnWord i => exact controlWriteIf_counters _ i s
  | eventsWrite i => exact controlWriteIf_counters _ i s
  | controlWordWrite i => exact execControlWordWrite_counters i s
  | mergeRead i => exact execMergeRead_counters i s
  | mergeReadAck beats => exact execMergeReadAck_counters beats s
  | mergeWrite i => exact execMergeWrite_counters i s
  | mergeBeatLock i => exact execMergeBeatLock_counters i s
  | mergeBeatReadIssue i => exact execMergeBeatReadIssue_counters i s
  | mergeBeatReadAck beats => exact execMergeBeatReadAck_counters beats s
  | mergeBeatWriteAck beats => exact execMergeBeatWriteAck_counters beats s
  | lockWaiterRelease => exact countersKept_next_of_eq (settleWaiters_queues s)
  | memoryPresent => exact countersKept_next_of_eq (present_queues s)
  | discardedAck beats => exact execDiscardedAck_counters beats s
  | tickAdvance => exact execTickAdvance_counters s
  | heldTakeExpiry i => exact execHeldTakeExpiry_counters i s
  | heldPutExpiry i => exact execHeldPutExpiry_counters i s
  | heldPutGrant => exact execHeldPutGrant_counters s
  | heldTakeService q => exact execHeldTakeService_counters q s
  | flushCompletion q => exact execFlushCompletion_counters q s
  | sysResetAssert => exact execSysResetAssert_counters s
  | sysResetRelease => exact countersKept_next_of_eq rfl
  | resetDrainEnd => exact execResetDrainEnd_counters s
  | pwrResetAssert => exact absurd rfl hreset
  | pwrResetRelease => exact execPwrResetRelease_counters s
  | frameAbort => exact execFrameAbort_counters s
  | responseCut => exact execResponseCut_counters s
  | unknownCommand code => exact execUnknownCommand_counters code s
  | identify => exact execIdentify_counters s
  | status => exact execStatus_counters s
  | apertureRead b => exact execApertureRead_counters b s
  | apertureWrite b im => exact execApertureWrite_counters b im s
  | apertureEnable b => exact execApertureEnable_counters b s
  | apertureDisable b => exact execApertureDisable_counters b s
  | queueConfigRead b => exact execQueueConfigRead_counters b s
  | queueConfigWrite b im => exact execQueueConfigWrite_counters b im s
  | queueEnable b => exact execQueueEnable_counters b s
  | queueDisable b => exact execQueueDisable_counters b s
  | queueFlush b => exact execQueueFlush_counters b s
  | queueStateRead b => exact execQueueStateRead_counters b s
  | countersClear b => exact absurd rfl (hclear b)
  | eventsClear b sel => exact execEventsClear_counters b sel s
  | poolConfig base cells guardEnable => exact execPoolConfig_counters base cells guardEnable s
  | tickConfig n => exact execTickConfig_counters n s
  | steerOn => exact execSteerOn_counters s
  | steerOff => exact execSteerOff_counters s
  | lineConfig routing => exact execLineConfig_counters routing s
  | faultPeek => exact execFaultPeek_counters s
  | faultDrop => exact execFaultDrop_counters s
  | summaryRead i => exact execSummaryRead_counters i s
  | controlPageRead i => exact execControlPageRead_counters i s
  | frameStart => exact execFrameStart_counters s
  | frameEnd => exact execFrameEnd_counters s

/-! ### COUNTERS_CLEAR -/

/-- The context of a queue with its four counters at 0 (R107). -/
def QueueCtx.cleared (x : QueueCtx) : QueueCtx :=
  { x with lost := 0#16, underrun := 0#16, expired := 0#16, divertedOut := 0#16 }

/-- A link command that is decided and whose arguments are well encoded answers with the result of its work (R170, R171). -/
theorem carryOut_ready {always : Bool} {code : Byte} {body : State → Option (State × LinkStatus × List Byte)}
    {s t : State} {status : LinkStatus} {data : List Byte} (hready : s.linkReady) (hbody : body s = some (t, status, data)) :
    carryOut always code body s = .next (t.replied status.byte data) := by
  obtain ⟨hframe, hidle⟩ := hready
  have hpending : s.pendingCmd.isPending = false := by
    cases h : s.pendingCmd with
    | idle => rfl
    | pending q => exact absurd h (hidle q)
    | complete q => rfl
  simp only [carryOut, hframe, decideLink, hpending, Bool.false_and, Bool.false_eq_true, if_false, hbody]
  rfl

/-- While a flush is pending, a link command that is not carried out always is answered BUSY (R171). -/
theorem carryOut_busy {code : Byte} {body : State → Option (State × LinkStatus × List Byte)} {s : State} {q : QueueId}
    (hframe : s.frame = .receiving) (hpending : s.pendingCmd = .pending q) :
    carryOut false code body s = .next (s.replied LinkStatus.busy.byte []) := by
  simp [carryOut, hframe, decideLink, hpending, PendingCmd.isPending, answerLink, finish, State.replied]

/-- A byte that holds a queue number names that queue (section 13.1). -/
theorem index16?_of_toNat_eq {b : Byte} {k : Fin 16} (h : b.toNat = k.val) : index16? b = some k := by
  simp [index16?, h]

/-- A queue number read from a byte is the byte's. -/
theorem toNat_eq_of_index16? {b : Byte} {k : Fin 16} (h : index16? b = some k) : b.toNat = k.val := by
  unfold index16? at h
  split at h
  · cases h; rfl
  · cases h

/-- COUNTERS_CLEAR is answered DONE and clears the four counters of its queue (R107). -/
theorem exec_countersClear_ready {s : State} {b : Byte} {q : QueueId} (hready : s.linkReady) (hb : b.toNat = q.val) :
    exec (.countersClear b) s = .next ((s.setQueue q (s.queue q).cleared).replied 0x00#8 []) := by
  change execCountersClear b s = _
  refine carryOut_ready (status := .done) hready ?_
  rw [index16?_of_toNat_eq hb]
  rfl

/-- COUNTERS_CLEAR leaves the context of every queue it does not name. -/
theorem exec_countersClear_others {s t : State} {b : Byte} {q : QueueId} (hexec : exec (.countersClear b) s = .next t)
    (hb : b.toNat ≠ q.val) : t.queue q = s.queue q := by
  obtain h | ⟨r, hr, h⟩ := carryOut_queues (show execCountersClear b s = .next t from hexec)
  · rw [State.queue, h, State.queue]
  · obtain ⟨p, hp, rfl⟩ := Option.map_eq_some_iff.mp hr
    have hqp : q ≠ p := fun e => hb (e ▸ toNat_eq_of_index16? hp)
    rw [State.queue, h]
    exact s.setQueue_queue_ne hqp _

/-! ### COUNTERS_CLEAR and the raises -/

/-- The events that count (R17, R146). -/
def raises : List (State → QueueId → State) :=
  [State.raiseLost, State.raiseUnderrun, State.raiseExpired, State.raiseDiverted]

/-- An event does not touch the link. -/
theorem linkReady_of_raise {raise : State → QueueId → State} (hraise : raise ∈ raises) {s : State} (q : QueueId)
    (hready : s.linkReady) : (raise s q).linkReady := by
  simp only [raises, List.mem_cons, List.not_mem_nil, or_false] at hraise
  obtain rfl | rfl | rfl | rfl := hraise <;> exact hready

/-- After COUNTERS_CLEAR the context of its queue is that of before with the counters at 0. -/
theorem queue_of_countersClear {s t : State} {b : Byte} {q : QueueId} (hready : s.linkReady) (hb : b.toNat = q.val)
    (hexec : exec (.countersClear b) s = .next t) : t.queue q = (s.queue q).cleared := by
  rw [exec_countersClear_ready hready hb] at hexec
  cases hexec
  exact s.setQueue_queue_self q _

/-- An event on a queue whose counters are at 0 counts 1, and sets its flag. -/
theorem raises_of_cleared {t : State} {q : QueueId} {x : QueueCtx} (h : t.queue q = x.cleared) :
    ((t.raiseLost q).queue q).lost = 1#16 ∧ ((t.raiseUnderrun q).queue q).underrun = 1#16 ∧
    ((t.raiseExpired q).queue q).expired = 1#16 ∧ ((t.raiseDiverted q).queue q).divertedOut = 1#16 ∧
    ((t.raiseLost q).flags[q].lost = true ∧ (t.raiseUnderrun q).flags[q].underrun = true ∧
      (t.raiseExpired q).flags[q].expired = true ∧ (t.raiseDiverted q).flags[q].diverted = true) := by
  have hfirst : satInc 0#16 = 1#16 := by decide
  have hread (f : QueueCtx → QueueCtx) (g : EventSet → EventSet) :
      ((t.updQueue q f).updFlags q g).queue q = f x.cleared := by
    rw [← h]; exact t.setQueue_queue_self q _
  refine ⟨?_, ?_, ?_, ?_, ?_, ?_, ?_, ?_⟩
  · rw [State.raiseLost, hread]; exact hfirst
  · rw [State.raiseUnderrun, hread]; exact hfirst
  · rw [State.raiseExpired, hread]; exact hfirst
  · rw [State.raiseDiverted, hread]; exact hfirst
  · simp [State.raiseLost]
  · simp [State.raiseUnderrun]
  · simp [State.raiseExpired]
  · simp [State.raiseDiverted]

/-- PWR_RESET leaves every queue in its initial context (R12 to R17, R167). -/
theorem queue_of_pwrResetAssert {s t : State} {q : QueueId} (hexec : exec .pwrResetAssert s = .next t) :
    t.queue q = QueueCtx.initial := by
  cases hexec
  simp [State.queue, assertPwrReset, State.reset]

/-! ### The obligation -/

/-- Settles O11: COUNTERS_CLEAR is one write of its queue's context, PWR_RESET writes every context anew, and every other
command respects the order of counters. -/
theorem countersOnlyCleared : Obligations.CountersOnlyCleared := by
  refine ⟨fun s b q hready hb => exec_countersClear_ready hready hb, fun s b q hframe hpending => ?_,
    fun s u t b q raise hready hb hraise hu ht => ⟨?_, ?_⟩, fun s t q hexec => ?_, fun c s t q hexec hreset hclear => ?_⟩
  · exact carryOut_busy hframe hpending
  · rw [queue_of_countersClear (linkReady_of_raise hraise q hready) hb hu]
    exact ⟨rfl, rfl, rfl, rfl⟩
  · exact raises_of_cleared (queue_of_countersClear hready hb ht)
  · rw [queue_of_pwrResetAssert hexec]
    exact ⟨rfl, rfl, rfl, rfl⟩
  · suffices h : (s.queue q).CountersLe (t.queue q) from ⟨h.lost, h.underrun, h.expired, h.divertedOut⟩
    by_cases hc : ∃ b, c = .countersClear b
    · obtain ⟨b, rfl⟩ := hc
      rw [exec_countersClear_others hexec (hclear b rfl)]
      exact ⟨le_rfl, le_rfl, le_rfl, le_rfl⟩
    · exact exec_counters c s (fun b hb => hc ⟨b, hb⟩) hreset t hexec q

end Sys2Proof.Machine
end

section
/-! PROOF. What a command can do, said once: every command but PWR_RESET_ASSERT is a run of updates of the kinds of `Micro`, each
allowed by the command's permissions. The statements that say which commands may change a piece of state are then one case
analysis over the kinds of update. -/

namespace Sys2Proof.Machine

/-! ### Places of a table -/

/-- A table after a write, at any place. -/
theorem getElem_set_place {α : Type} {n : Nat} (v : Vector α n) (i j : Fin n) (x : α) :
    (v.set i x)[j] = if j = i then x else v[j] := by
  simp [Vector.getElem_set, Fin.ext_iff, eq_comm]

/-- A table with `f` applied, at any place. -/
theorem getElem_mapTable {α β : Type} {n : Nat} (f : α → β) (v : Vector α n) (i : Fin n) :
    (mapTable f v)[i] = f v[i] := by
  simp [mapTable, Vector.getElem_toList]

/-- FAULT_DROP changes the log and the overflow count alone (R155). -/
theorem dropRecord_eq (s : State) :
    dropRecord s = { s with log := (dropRecord s).log, overflow := (dropRecord s).overflow } := by
  unfold dropRecord
  split
  · rfl
  · split <;> rfl

/-! ### Permissions -/

/-- What a command may change: whether it may make bindings and hold requests, whose bindings it may change, whose latches it
may write, of which queues it may clear sticky flags, the pieces of configuration it may set, and whether it may change the
frame in progress. -/
structure Perm where
  bind      : Prop
  owns      : InitId → Prop
  latch     : InitId → Prop
  clear     : QueueId → Prop
  config    : QueueId → Prop
  apertures : Prop
  pool      : Prop
  steer     : Prop
  interval  : Prop
  routing   : Prop
  tick      : Prop
  drop      : Prop
  link      : Prop

/-- No sticky flag of `f` is missing in `g`. -/
structure EventSet.StickyLe (f g : EventSet) : Prop where
  lost : f.lost = true → g.lost = true
  underrun : f.underrun = true → g.underrun = true
  watermark : f.watermark = true → g.watermark = true
  expired : f.expired = true → g.expired = true
  diverted : f.diverted = true → g.diverted = true

theorem EventSet.StickyLe.refl (f : EventSet) : f.StickyLe f := ⟨id, id, id, id, id⟩

theorem EventSet.StickyLe.trans {f g h : EventSet} (hfg : f.StickyLe g) (hgh : g.StickyLe h) : f.StickyLe h :=
  ⟨hgh.lost ∘ hfg.lost, hgh.underrun ∘ hfg.underrun, hgh.watermark ∘ hfg.watermark, hgh.expired ∘ hfg.expired,
    hgh.diverted ∘ hfg.diverted⟩

/-! ### Updates -/

/-- The updates that move requests, responses and records: they change the port, the log, the wait slots, the Merge Unit and the
memory port alone. -/
inductive Traffic (p : Perm) : State → State → Prop
  | offer (s : State) (i : InitId) (r : Request) : Traffic p s (offerRequest i r s)
  | accept (s : State) (i : InitId) : Traffic p s (acceptOffer i s)
  | answer (s : State) (i : InitId) (code : RespCode) (data : List Word) : Traffic p s (respond i code data s)
  | mark (s : State) (i : InitId) : Traffic p s (s.take i)
  | record (s : State) (r : FaultRecord) : Traffic p s (s.appendRecord r)
  | vacate (s : State) (k : SlotId) : Traffic p s (s.vacate k)
  | park (s : State) (kind : HeldKind) (i : InitId) (r : Request) (a : QueueAccess) (wait : BitVec 16) (hwait : wait ≠ 0#16)
      (hbind : p.bind) : Traffic p s (park kind i r a wait s)
  | issue (s : State) (r : MemReq) : Traffic p s (issue r s)
  | present (s : State) : Traffic p s (present s)
  | retireHead (s : State) : Traffic p s (retireHead s)
  | handOver (s : State) (r : MemReq) : Traffic p s (handOver r s)
  | takeLock (s : State) (i : InitId) (word : Addr) (h : mayLock s.locks s.waiting word = true) :
      Traffic p s (takeLock i word s)
  | waitBeat (s : State) (i : InitId) (word : Addr) (h : mayLock s.locks s.waiting word = false) :
      Traffic p s { s with waiting := s.waiting ++ [.beat i word] }
  | settleWaiters (s : State) : Traffic p s (settleWaiters s)
  | releaseLock (s : State) (i : InitId) : Traffic p s (releaseLock i s)
  | lockWriting (s : State) (i : InitId) : Traffic p s (lockWriting i s)
  | setMerge (s : State) (i : InitId) (m : Option MergeBeat) : Traffic p s (s.setMerge i m)

/-- `s` with what traffic may change taken from `t`. -/
def State.trafficked (s t : State) : State :=
  { s.port t with log := t.log, overflow := t.overflow, slots := t.slots, arrival := t.arrival, locks := t.locks,
                  waiting := t.waiting, merges := t.merges, issueQ := t.issueQ, outstanding := t.outstanding }

theorem Traffic.eq {p : Perm} {s t : State} (h : Traffic p s t) : t = s.trafficked t := by
  cases h with
  | accept i => rw [acceptOffer_eq]; rfl
  | answer i code data => rw [respond_eq]; rfl
  | record r => rw [State.appendRecord_eq]; rfl
  | park => rw [park_eq]; rfl
  | issue r => rw [issue_eq]; rfl
  | present => rw [present_eq]; rfl
  | retireHead => rw [retireHead_eq]; rfl
  | handOver r => rw [handOver_eq]; rfl
  | settleWaiters => rw [settleWaiters_eq]; rfl
  | releaseLock i => rw [releaseLock_eq]; rfl
  | _ => rfl

/-- The kinds of update of which the commands consist. -/
inductive Micro (p : Perm) : State → State → Prop
  | traffic {s t : State} (h : Traffic p s t) : Micro p s t
  | dropRecord (s : State) (h : p.drop) : Micro p s (dropRecord s)
  -- cells, queues, flags and bindings
  | setCell (s : State) (c : Nat) (x : Cell) : Micro p s (s.setCell c x)
  | setFree (s : State) (l : List Nat) : Micro p s { s with freeList := l }
  | setQueue (s : State) (q : QueueId) (x : QueueCtx) (h : x.config = (s.queue q).config)
      (hflush : (∀ i, p.owns i) ∨ x.isFlushing = (s.queue q).isFlushing) : Micro p s (s.setQueue q x)
  | updFlags (s : State) (q : QueueId) (f : EventSet → EventSet) (h : p.clear q ∨ s.flags[q].StickyLe (f s.flags[q])) :
      Micro p s (s.updFlags q f)
  | notify (s : State) : Micro p s s.notify
  | setPut (s : State) (e : EntryId) (b : Option PutBinding) (hbind : b.isSome → p.bind)
      (howns : ∀ d, s.putTable[e] = some d → p.owns d.init) : Micro p s (s.setPut e b)
  | setTake (s : State) (e : EntryId) (b : Option TakeBinding) (hbind : b.isSome → p.bind)
      (howns : ∀ d, s.takeTable[e] = some d → p.owns d.init) : Micro p s (s.setTake e b)
  | voidTables (s : State) (q : QueueId) (howns : ∀ i, p.owns i) :
      Micro p s { s with putTable := mapTable (Option.map (voidPut q)) s.putTable,
                         takeTable := mapTable (Option.map (voidTake q)) s.takeTable }
  | clearTables (s : State) (howns : ∀ i, p.owns i) :
      Micro p s { s with putTable := Vector.replicate 16 none, takeTable := Vector.replicate 16 none, drain := true }
  | setDrain (s : State) (b : Bool) : Micro p s { s with drain := b }
  -- the tick
  | elapse (s : State) (n : Nat) (h : n < s.tickInterval ∨ n = 0) : Micro p s { s with tickElapsed := n }
  | tick (s : State) (h : p.tick) : Micro p s { s with tickCount := s.tickCount + 1#32, tickElapsed := 0 }
  -- latches, pins, resets and the management link
  | setLatch (s : State) (i : InitId) (l : Latch) (h : p.latch i) : Micro p s (s.setLatch i l)
  | pins (s : State) (a b : Bool) : Micro p s { s with pwrReset := a, sysReset := b }
  | resetUnits (s : State) (h : ∀ i, p.latch i) : Micro p s (resetUnits s)
  | link (s : State) (f : Frame) (select : Bool) (m : List Bool) (hlink : p.link)
      (h : FramesSelected s → f ≠ .outside → select = true) :
      Micro p s { s with frame := f, select := select, mdoSent := m }
  | setPending (s : State) (c : PendingCmd) (howns : ∀ i, p.owns i) : Micro p s { s with pendingCmd := c }
  -- configuration
  | config (s : State) (q : QueueId) (c : QueueConfig) (n : BitVec 16) (h : p.config q) (hrange : c.inRange) :
      Micro p s (s.setQueue q { s.queue q with config := c, nextSeq := n })
  | setAperture (s : State) (k : ApId) (a : Aperture) (h : p.apertures) : Micro p s (s.setAperture k a)
  | buildPool (s : State) (base : Addr) (n : Nat) (g : Bool) (h : p.pool) (hbase : base.toNat % 262144 = 0)
      (hn : n = 0 ∨ (16 ≤ n ∧ n ≤ 1024 ∧ n % 16 = 0)) : Micro p s (buildPool base n g s)
  | steerOn (s : State) (h : p.steer) : Micro p s { s with steering := .on }
  | steerOff (s : State) (h : p.steer) (hquiet : s.quiet = true) (hbind : ¬ p.bind) : Micro p s { s with steering := .off }
  | interval (s : State) (n : Nat) (h : p.interval) (hmin : 1 ≤ n) (hmax : n ≤ 65536) :
      Micro p s { s with tickInterval := n, tickElapsed := 0 }
  | routing (s : State) (l : Option Line) (h : p.routing) : Micro p s { s with faultRouting := l }

/-- A run of updates that the permissions allow. -/
def Work (p : Perm) : State → State → Prop := Relation.ReflTransGen (Micro p)

/-- What every update keeps, every run of updates keeps. -/
theorem Work.keeps {p : Perm} {P : State → Prop} (hP : ∀ s t, Micro p s t → P s → P t) {s t : State} (h : Work p s t)
    (hs : P s) : P t := by
  induction h with
  | refl => exact hs
  | tail _ hm ih => exact hP _ _ hm ih

namespace Work

variable {p : Perm} {s t : State}

theorem refl : Work p s s := Relation.ReflTransGen.refl

theorem trans {u : State} (h : Work p s t) (h' : Work p t u) : Work p s u := Relation.ReflTransGen.trans h h'

theorem of_eq (h : t = s) : Work p s t := h ▸ refl

theorem step {u : State} (h : Work p s t) (h' : Micro p t u) : Work p s u := Relation.ReflTransGen.tail h h'

theorem traffic {u : State} (h : Work p s t) (h' : Traffic p t u) : Work p s u := h.step (.traffic h')

theorem offer (h : Work p s t) (i : InitId) (r : Request) : Work p s (offerRequest i r t) := h.traffic (.offer t i r)
theorem accept (h : Work p s t) (i : InitId) : Work p s (acceptOffer i t) := h.traffic (.accept t i)
theorem answer (h : Work p s t) (i : InitId) (code : RespCode) (data : List Word) : Work p s (respond i code data t) :=
  h.traffic (.answer t i code data)
theorem mark (h : Work p s t) (i : InitId) : Work p s (t.take i) := h.traffic (.mark t i)
theorem record (h : Work p s t) (r : FaultRecord) : Work p s (t.appendRecord r) := h.traffic (.record t r)
theorem setCell (h : Work p s t) (c : Nat) (x : Cell) : Work p s (t.setCell c x) := h.step (.setCell t c x)
theorem updCell (h : Work p s t) (c : Nat) (f : Cell → Cell) : Work p s (t.updCell c f) := h.setCell c _
theorem setFree (h : Work p s t) (l : List Nat) : Work p s { t with freeList := l } := h.step (.setFree t l)
theorem setQueue (h : Work p s t) (q : QueueId) {x : QueueCtx} (hx : x.config = (t.queue q).config)
    (hflush : (∀ i, p.owns i) ∨ x.isFlushing = (t.queue q).isFlushing) : Work p s (t.setQueue q x) :=
  h.step (.setQueue t q x hx hflush)
/-- A write of a queue that leaves its configuration, and whether it is FLUSHING. -/
theorem updQueue (h : Work p s t) (q : QueueId) {f : QueueCtx → QueueCtx}
    (hf : (f (t.queue q)).config = (t.queue q).config)
    (hflush : (∀ i, p.owns i) ∨ (f (t.queue q)).isFlushing = (t.queue q).isFlushing) :
    Work p s (t.updQueue q f) :=
  h.setQueue q hf hflush
theorem notify (h : Work p s t) : Work p s t.notify := h.step (.notify t)
theorem vacate (h : Work p s t) (k : SlotId) : Work p s (t.vacate k) := h.traffic (.vacate t k)
theorem issue (h : Work p s t) (r : MemReq) : Work p s (Machine.issue r t) := h.traffic (.issue t r)
theorem present (h : Work p s t) : Work p s (Machine.present t) := h.traffic (.present t)
theorem retireHead (h : Work p s t) : Work p s (Machine.retireHead t) := h.traffic (.retireHead t)
theorem handOver (h : Work p s t) (r : MemReq) : Work p s (Machine.handOver r t) := h.traffic (.handOver t r)
theorem releaseLock (h : Work p s t) (i : InitId) : Work p s (Machine.releaseLock i t) := h.traffic (.releaseLock t i)
theorem lockWriting (h : Work p s t) (i : InitId) : Work p s (Machine.lockWriting i t) := h.traffic (.lockWriting t i)
theorem setMerge (h : Work p s t) (i : InitId) (m : Option MergeBeat) : Work p s (t.setMerge i m) :=
  h.traffic (.setMerge t i m)
theorem setLatch (h : Work p s t) (i : InitId) (l : Latch) (hl : p.latch i) : Work p s (t.setLatch i l) :=
  h.step (.setLatch t i l hl)
theorem setPending (h : Work p s t) (c : PendingCmd) (howns : ∀ i, p.owns i) : Work p s { t with pendingCmd := c } :=
  h.step (.setPending t c howns)

/-- An event sets a sticky flag and clears none. -/
theorem updFlags (h : Work p s t) (q : QueueId) {f : EventSet → EventSet} (hf : ∀ g, EventSet.StickyLe g (f g)) :
    Work p s (t.updFlags q f) :=
  h.step (.updFlags t q f (.inr (hf _)))

/-- A free entry of the Put Binding Table may be written, and an entry of an initiator whose bindings may change. -/
theorem setPut (h : Work p s t) (e : EntryId) {b : Option PutBinding} (hbind : b.isSome → p.bind)
    (howns : ∀ d, t.putTable[e] = some d → p.owns d.init) : Work p s (t.setPut e b) :=
  h.step (.setPut t e b hbind howns)

theorem setTake (h : Work p s t) (e : EntryId) {b : Option TakeBinding} (hbind : b.isSome → p.bind)
    (howns : ∀ d, t.takeTable[e] = some d → p.owns d.init) : Work p s (t.setTake e b) :=
  h.step (.setTake t e b hbind howns)

/-- A loop of works is work. -/
theorem foldl {α : Type} {f : State → α → State} (hf : ∀ u a, Work p s u → Work p s (f u a)) (l : List α)
    (h : Work p s t) : Work p s (l.foldl f t) := by
  induction l generalizing t with
  | nil => exact h
  | cons a l ih => exact ih (hf t a h)

end Work

/-! ### Who may bind -/

/-- The part is not idle: a binding, a held request, or a steered request stands in it (R114). -/
def Active (s : State) : Prop :=
  (∃ e : EntryId, s.putTable[e] ≠ none) ∨ (∃ e : EntryId, s.takeTable[e] ≠ none) ∨ (∃ k : SlotId, s.slots[k] ≠ none) ∨
    ∃ i : InitId, ∃ x ∈ s.channels[i], x.decoded.steered = true

/-- Where a request is held, the command may make bindings: it may have to grant or serve that request. -/
def Covers (p : Perm) (s : State) : Prop := ∀ k : SlotId, s.slots[k] ≠ none → p.bind

/-- Traffic holds no request without the permission to bind. -/
theorem Traffic.covers {p : Perm} {s t : State} (h : Traffic p s t) (hs : Covers p s) : Covers p t := by
  have hsame : t.slots = s.slots → Covers p t := fun heq k hk => hs k (heq ▸ hk)
  cases h with
  | park kind i r a wait hwait hbind => exact fun _ _ => hbind
  | vacate k =>
    intro j hj
    refine hs j fun hnone => hj ?_
    rw [State.vacate_slots, getElem_set_place, hnone, ite_self]
  | accept i => exact hsame (by rw [acceptOffer_eq])
  | answer i code data => exact hsame (by rw [respond_eq]; rfl)
  | record r => exact hsame (by simp)
  | issue r => exact hsame (by rw [issue_eq])
  | present => exact hsame (by rw [present_eq])
  | retireHead => exact hsame (by rw [retireHead_eq])
  | handOver r => exact hsame (by rw [handOver_eq])
  | settleWaiters => exact hsame (by rw [settleWaiters_eq])
  | releaseLock i => exact hsame (by rw [releaseLock_eq])
  | _ => exact hsame rfl

/-- No update holds a request without the permission to bind. -/
theorem Micro.covers {p : Perm} {s t : State} (h : Micro p s t) (hs : Covers p s) : Covers p t := by
  have hsame : t.slots = s.slots → Covers p t := fun heq k hk => hs k (heq ▸ hk)
  cases h with
  | traffic h => exact h.covers hs
  | resetUnits _ => exact fun k hk => absurd (by simp [Machine.resetUnits]) hk
  | dropRecord _ => exact hsame (by rw [dropRecord_eq])
  | _ => exact hsame rfl

theorem Work.covers {p : Perm} {s t : State} (h : Work p s t) (hs : Covers p s) : Covers p t :=
  h.keeps (P := Covers p) (fun _ _ hm => hm.covers) hs

/-- Without the permission, no update changes the frame in progress. -/
theorem Micro.frame_eq {p : Perm} {s t : State} (h : Micro p s t) (hp : ¬ p.link) : t.frame = s.frame := by
  cases h with
  | link _ _ _ hlink _ => exact absurd hlink hp
  | traffic h => rw [h.eq]; rfl
  | dropRecord _ => rw [dropRecord_eq]
  | _ => rfl

theorem Work.frame_eq {p : Perm} {s t : State} (h : Work p s t) (hp : ¬ p.link) : t.frame = s.frame :=
  h.keeps (P := fun u => u.frame = s.frame) (fun _ _ hm hu => (hm.frame_eq hp).trans hu) rfl

end Sys2Proof.Machine
end

section
/-! PROOF. Each shared operation of the part is a run of updates (`Work`), under the permissions it needs: to bind where it may
write a binding, and to change the bindings of the initiators whose entries it overwrites. -/

namespace Sys2Proof.Machine

/-! ### Entries that a search finds -/

theorem freePut_eq_some {s : State} {e : EntryId} (h : s.freePut = some e) : s.putTable[e] = none := by
  simpa using List.find?_some h

theorem freeTake_eq_some {s : State} {e : EntryId} (h : s.freeTake = some e) : s.takeTable[e] = none := by
  simpa using List.find?_some h

/-- The entry with a key holds a binding of that key (R26). -/
theorem putEntry_eq_some {s : State} {i : InitId} {q : QueueId} {e : EntryId} (h : s.putEntry i q = some e) :
    ∃ b, s.putTable[e] = some b ∧ b.init = i ∧ b.origin = q := by
  have hkey := List.find?_some h
  cases hb : s.putTable[e] with
  | none => simp [hb] at hkey
  | some b => exact ⟨b, rfl, by simpa [hb] using hkey⟩

/-- The entry with a key holds a binding of that key (R49). -/
theorem takeEntry_eq_some {s : State} {i : InitId} {q : QueueId} {e : EntryId} (h : s.takeEntry i q = some e) :
    ∃ b, s.takeTable[e] = some b ∧ b.init = i ∧ b.queue = q := by
  have hkey := List.find?_some h
  cases hb : s.takeTable[e] with
  | none => simp [hb] at hkey
  | some b => exact ⟨b, rfl, by simpa [hb] using hkey⟩

theorem putBinding_eq_some {s : State} {i : InitId} {q : QueueId} {e : EntryId} {b : PutBinding}
    (h : s.putBinding i q = some (e, b)) : s.putTable[e] = some b ∧ b.init = i ∧ b.origin = q := by
  unfold State.putBinding at h
  split at h
  next f hf =>
    obtain ⟨d, hd, hinit, horigin⟩ := putEntry_eq_some hf
    rw [hd] at h
    cases h
    exact ⟨hd, hinit, horigin⟩
  · cases h

theorem takeBinding_eq_some {s : State} {i : InitId} {q : QueueId} {e : EntryId} {b : TakeBinding}
    (h : s.takeBinding i q = some (e, b)) : s.takeTable[e] = some b ∧ b.init = i ∧ b.queue = q := by
  unfold State.takeBinding at h
  split at h
  next f hf =>
    obtain ⟨d, hd, hinit, hqueue⟩ := takeEntry_eq_some hf
    rw [hd] at h
    cases h
    exact ⟨hd, hinit, hqueue⟩
  · cases h

/-- A held request that a search finds stands in its slot, in the arrival list, and passes the test (R89). -/
theorem findHeld_eq_some {s : State} {test : Slot → Bool} {k : SlotId} {x : Slot} (h : s.findHeld test = some (k, x)) :
    k ∈ s.arrival ∧ s.slots[k] = some x ∧ test x = true := by
  obtain ⟨j, hj, hfound⟩ := List.exists_of_findSome?_eq_some h
  cases hslot : s.slots[j] with
  | none => simp [hslot] at hfound
  | some y =>
    by_cases hy : test y = true
    · simp only [hslot, hy, if_true, Option.some.injEq, Prod.mk.injEq] at hfound
      obtain ⟨rfl, rfl⟩ := hfound
      exact ⟨hj, hslot, hy⟩
    · simp [hslot, hy] at hfound

namespace Work

variable {p : Perm} {s t : State}

/-! ### Answers and records -/

theorem respondFault (h : Work p s t) (kind : FaultKind) (i : InitId) (addr : Addr) (aperture : Option ApId)
    (queue : Option QueueId) (data : List Word) : Work p s (respondFault kind i addr aperture queue data t) :=
  (h.record _).answer i .fault data

theorem queueFault (h : Work p s t) (kind : FaultKind) (i : InitId) (r : Request) (a : QueueAccess) (data : List Word) :
    Work p s (queueFault kind i r a data t) := h.respondFault ..

theorem memoryFault (h : Work p s t) (x : CellAccess) (r : Request) (a : QueueAccess) :
    Work p s (memoryFault x r a t) := h.respondFault ..

theorem mergeFault (h : Work p s t) (kind : FaultKind) (i : InitId) (m : MergeAccess) :
    Work p s (mergeFault kind i m t) := h.respondFault ..

theorem answerAccess (h : Work p s t) (x : CellAccess) (r : Request) (a : QueueAccess) (beats : List MemBeat) :
    Work p s (answerAccess x r a beats t) := by
  unfold Machine.answerAccess
  split
  · exact h.memoryFault x r a
  · exact h.answer ..

theorem answerEmpty (h : Work p s t) (i : InitId) (r : Request) (q : QueueId) : Work p s (answerEmpty i r q t) :=
  h.answer ..

/-! ### Events -/

theorem raiseLost (h : Work p s t) (q : QueueId) : Work p s (t.raiseLost q) :=
  (h.updQueue q (f := fun x => { x with lost := satInc x.lost }) rfl (.inr rfl)).updFlags q fun _ => ⟨fun _ => rfl, id, id, id, id⟩

theorem raiseUnderrun (h : Work p s t) (q : QueueId) : Work p s (t.raiseUnderrun q) :=
  (h.updQueue q (f := fun x => { x with underrun := satInc x.underrun }) rfl (.inr rfl)).updFlags q
    fun _ => ⟨id, fun _ => rfl, id, id, id⟩

theorem raiseExpired (h : Work p s t) (q : QueueId) : Work p s (t.raiseExpired q) :=
  (h.updQueue q (f := fun x => { x with expired := satInc x.expired }) rfl (.inr rfl)).updFlags q
    fun _ => ⟨id, id, id, fun _ => rfl, id⟩

theorem raiseDiverted (h : Work p s t) (q : QueueId) : Work p s (t.raiseDiverted q) :=
  (h.updQueue q (f := fun x => { x with divertedOut := satInc x.divertedOut }) rfl (.inr rfl)).updFlags q
    fun _ => ⟨id, id, id, id, fun _ => rfl⟩

theorem checkWatermark (h : Work p s t) (q : QueueId) : Work p s (t.checkWatermark q) := by
  unfold State.checkWatermark
  split
  · exact h.updFlags q fun _ => ⟨id, id, fun _ => rfl, id, id⟩
  · exact h

/-! ### Cells -/

theorem appendFree (h : Work p s t) (c : Nat) : Work p s (appendFree c t) := (h.setCell c _).setFree _
theorem incOpen (h : Work p s t) (q : QueueId) : Work p s (incOpen q t) := h.updQueue q rfl (.inr rfl)
theorem decOpen (h : Work p s t) (q : QueueId) : Work p s (decOpen q t) := h.updQueue q rfl (.inr rfl)
theorem incFlight (h : Work p s t) (c : Nat) : Work p s (incFlight c t) := h.updCell c _
theorem decFlight (h : Work p s t) (c : Nat) : Work p s (decFlight c t) := h.updCell c _

theorem releasePin (h : Work p s t) (c : Nat) : Work p s (releasePin c t).1 := by
  have hpin := h.updCell c fun x => { x with pins := x.pins - 1 }
  unfold Machine.releasePin
  dsimp only
  split
  · split
    · exact hpin.appendFree c
    · exact hpin
  · exact hpin

theorem composeWrite (h : Work p s t) (i : InitId) (r : Request) (a : QueueAccess) (q : QueueId) (c : Nat) :
    Work p s (composeWrite i r a q c t) :=
  ((h.updCell c _).incFlight c).handOver _

theorem takeRead (h : Work p s t) (i : InitId) (r : Request) (a : QueueAccess) (c : Nat) :
    Work p s (takeRead i r a c t) := (h.incFlight c).handOver _

theorem putRead (h : Work p s t) (i : InitId) (r : Request) (a : QueueAccess) (q : QueueId) (c : Nat) :
    Work p s (putRead i r a q c t) := (h.incFlight c).handOver _

theorem pinAndRead (h : Work p s t) (i : InitId) (r : Request) (a : QueueAccess) (c : Nat) :
    Work p s (pinAndRead i r a c t) := (h.updCell c _).handOver _

/-! ### Bindings made and freed -/

/-- A new put binding goes to a free entry. -/
theorem newPut (h : Work p s t) (hbind : p.bind) {e : EntryId} (hfree : t.putTable[e] = none) (b : PutBinding) :
    Work p s (t.setPut e (some b)) :=
  h.setPut e (fun _ => hbind) (by simp [hfree])

theorem newTake (h : Work p s t) (hbind : p.bind) {e : EntryId} (hfree : t.takeTable[e] = none) (b : TakeBinding) :
    Work p s (t.setTake e (some b)) :=
  h.setTake e (fun _ => hbind) (by simp [hfree])

/-- A put binding of an initiator whose bindings may change is freed. -/
theorem endPut (h : Work p s t) {e : EntryId} {b : PutBinding} (hb : t.putTable[e] = some b) (howns : p.owns b.init) :
    Work p s (t.setPut e none) :=
  h.setPut e (by simp) (by simpa [hb] using howns)

theorem endTake (h : Work p s t) {e : EntryId} {b : TakeBinding} (hb : t.takeTable[e] = some b) (howns : p.owns b.init) :
    Work p s (t.setTake e none) :=
  h.setTake e (by simp) (by simpa [hb] using howns)

theorem freePutBinding (h : Work p s t) {i : InitId} (q : QueueId) (howns : p.owns i) :
    Work p s (freePutBinding i q t) := by
  unfold Machine.freePutBinding
  split
  next e he =>
    obtain ⟨b, hb, rfl, -⟩ := putEntry_eq_some he
    exact h.endPut hb howns
  · exact h

theorem freeTakeBinding (h : Work p s t) {i : InitId} (q : QueueId) (howns : p.owns i) :
    Work p s (freeTakeBinding i q t) := by
  unfold Machine.freeTakeBinding
  split
  next e he =>
    obtain ⟨b, hb, rfl, -⟩ := takeEntry_eq_some he
    exact h.endTake hb howns
  · exact h

theorem openWrite (h : Work p s t) (hbind : p.bind) (i : InitId) (r : Request) (a : QueueAccess) (q : QueueId)
    (origin : Option QueueId) {e : EntryId} (hfree : t.putTable[e] = none) :
    Work p s (openWrite i r a q origin e t) := by
  unfold Machine.openWrite allocate
  cases t.freeList with
  | nil => exact h
  | cons c rest => exact ((((h.setCell c _).setFree rest).incOpen q).newPut hbind hfree _).composeWrite ..

theorem dropWrite (h : Work p s t) (hbind : p.bind) (i : InitId) (r : Request) (a : QueueAccess) {e : EntryId}
    (hfree : t.putTable[e] = none) : Work p s (dropWrite i r a e t) := by
  unfold Machine.dropWrite
  dsimp only
  split
  · exact (h.raiseLost a.queue).answer ..
  · exact ((h.raiseLost a.queue).newPut hbind hfree _).answer ..

theorem bindTake (h : Work p s t) (hbind : p.bind) (i : InitId) (r : Request) (a : QueueAccess) {e : EntryId} (c : Nat)
    (hfree : t.takeTable[e] = none) : Work p s (bindTake i r a e c t) :=
  ((h.updCell c _).newTake hbind hfree _).takeRead ..

/-! ### Grants and services -/

theorem grant (h : Work p s t) (hbind : p.bind) (k : SlotId) (x : Slot) : Work p s (grant k x t) := by
  unfold Machine.grant
  dsimp only
  split
  · exact (h.vacate k).respondFault ..
  next e he => exact (h.vacate k).openWrite hbind _ _ _ _ _ (freePut_eq_some he)

theorem grantLoop (h : Work p s t) (hcov : Covers p s) (n : Nat) : Work p s (grantLoop n t) := by
  induction n generalizing t with
  | zero => exact h
  | succ n ih =>
    unfold Machine.grantLoop
    split
    · exact h
    next k x hx =>
      obtain ⟨-, hslot, -⟩ := findHeld_eq_some hx
      exact ih (h.grant (h.covers hcov k (by simp [hslot])) k x)

theorem offerRoom (h : Work p s t) (hcov : Covers p s) : Work p s (offerRoom t) := by
  unfold Machine.offerRoom
  split
  · exact h
  · exact h.grantLoop hcov _

theorem serve (h : Work p s t) (hbind : p.bind) (k : SlotId) (x : Slot) (c : Nat) : Work p s (serve k x c t) := by
  unfold Machine.serve
  dsimp only
  split
  · exact (h.vacate k).respondFault ..
  next e he => exact (h.vacate k).bindTake hbind _ _ _ _ (freeTake_eq_some he)

theorem serveTakes (h : Work p s t) (hcov : Covers p s) (q : QueueId) : Work p s (serveTakes q t) := by
  unfold Machine.serveTakes
  generalize t.arrival.length = n
  induction n generalizing t with
  | zero => exact h
  | succ n ih =>
    unfold serveLoop
    split
    next k x c hx _ =>
      obtain ⟨-, hslot, -⟩ := findHeld_eq_some hx
      exact ih (h.serve (h.covers hcov k (by simp [hslot])) k x c)
    · exact h

/-! ### Flush and reset drain -/

theorem completeFlush (h : Work p s t) (hcov : Covers p s) (howns : ∀ i, p.owns i) (q : QueueId) :
    Work p s (completeFlush q t) := by
  have hfreed := foldl (fun u c (hu : Work p s u) => hu.appendFree c) ((t.queue q).committed ++ t.openCells q) h
  have hvoid := hfreed.step (.voidTables _ q howns)
  exact ((hvoid.updQueue q (f := fun x => { x with committed := [], openCount := 0, state := x.state.restored }) rfl
    (.inl howns)).offerRoom hcov).setPending _ howns

theorem tryFlush (h : Work p s t) (hcov : Covers p s) (howns : ∀ i, p.owns i) (q : QueueId) : Work p s (tryFlush q t) := by
  unfold Machine.tryFlush
  split
  · exact h.completeFlush hcov howns q
  · exact h

theorem tryFlushOwner (h : Work p s t) (hcov : Covers p s) (howns : ∀ i, p.owns i) (owner : Option QueueId) :
    Work p s (tryFlushOwner owner t) := by
  unfold Machine.tryFlushOwner
  split
  · exact h.tryFlush hcov howns _
  · exact h

theorem endDrain (h : Work p s t) (hcov : Covers p s) (howns : ∀ i, p.owns i) : Work p s (endDrain t) :=
  foldl (fun _ q hu => hu.tryFlush hcov howns q) upTo16 (h.step (.setDrain t false))

theorem settleDrain (h : Work p s t) (hcov : Covers p s) (howns : ∀ i, p.owns i) : Work p s (settleDrain t) := by
  unfold Machine.settleDrain
  split
  · exact h.endDrain hcov howns
  · exact h

/-! ### The put window -/

theorem fullWrite (h : Work p s t) (hbind : p.bind) (i : InitId) (r : Request) (a : QueueAccess) {e : EntryId}
    (hfree : t.putTable[e] = none) : Work p s (fullWrite i r a e t) := by
  unfold Machine.fullWrite
  repeat' split
  · exact h.dropWrite hbind i r a hfree
  next c _ =>
    exact (((((h.mark i).setCell c _).updQueue a.queue rfl (.inr rfl)).newPut hbind hfree _).raiseLost a.queue).composeWrite ..
  · exact h.dropWrite hbind i r a hfree
  · exact ((h.mark i).raiseDiverted a.queue).openWrite hbind _ _ _ _ _ hfree
  · exact h.dropWrite hbind i r a hfree
  · exact h.dropWrite hbind i r a hfree
  next hwait => exact h.traffic (.park t .put i r a _ hwait hbind)

theorem openingWrite (h : Work p s t) (hbind : p.bind) (i : InitId) (r : Request) (a : QueueAccess) :
    Work p s (openingWrite i r a t) := by
  unfold Machine.openingWrite
  repeat' split
  · exact h.queueFault ..
  · exact h.answer ..
  · exact h.queueFault ..
  next e he _ => exact h.fullWrite hbind i r a (freePut_eq_some he)
  next e he _ => exact (h.mark i).openWrite hbind _ _ _ _ _ (freePut_eq_some he)

theorem boundWrite (h : Work p s t) (i : InitId) (r : Request) (a : QueueAccess) {e : EntryId} {b : PutBinding}
    (hb : t.putTable[e] = some b) (howns : p.owns b.init) : Work p s (boundWrite i r a e b t) := by
  unfold Machine.boundWrite
  split
  · split
    · exact h.answer ..
    · exact (h.mark i).composeWrite ..
  · split
    · exact h.answer ..
    · split
      · exact (h.endPut hb howns).answer ..
      · exact h.answer ..
  · split
    · exact (h.endPut hb howns).answer ..
    · exact h.answer ..

theorem putWrite (h : Work p s t) (hbind : p.bind) {i : InitId} (howns : p.owns i) (r : Request) (a : QueueAccess) :
    Work p s (putWrite i r a t) := by
  unfold Machine.putWrite
  repeat' split
  · exact h.queueFault ..
  · exact h.openingWrite hbind i r a
  next e b he =>
    obtain ⟨hb, rfl, -⟩ := putBinding_eq_some he
    exact h.boundWrite _ r a hb howns

theorem putWindowRead (h : Work p s t) (i : InitId) (r : Request) (a : QueueAccess) :
    Work p s (putWindowRead i r a t) := by
  unfold Machine.putWindowRead
  repeat' split
  · exact h.queueFault ..
  · exact h.answerEmpty ..
  · exact h.answerEmpty ..
  · exact (h.mark i).putRead ..
  · exact h.answerEmpty ..
  · exact h.answer ..

/-! ### Acknowledgements of cell accesses -/

theorem composeAck (h : Work p s t) (hcov : Covers p s) (howns : ∀ i, p.owns i) (x : CellAccess) (r : Request)
    (a : QueueAccess) (beats : List MemBeat) : Work p s (composeAck x r a beats t) := by
  unfold Machine.composeAck
  dsimp only
  refine tryFlushOwner ?_ hcov howns _
  split
  · exact ((h.retireHead.decFlight x.cell).updCell x.cell _).answerAccess ..
  · exact (h.retireHead.decFlight x.cell).answerAccess ..

theorem commitCell (h : Work p s t) (q : QueueId) (c : Nat) : Work p s (commitCell q c t) :=
  ((h.updCell c _).updQueue q (f := fun x => { x with nextSeq := x.nextSeq + 1#16, committed := x.committed ++ [c],
                                                      openCount := x.openCount - 1 }) rfl (.inr rfl)).checkWatermark q

theorem closeAck (h : Work p s t) (hcov : Covers p s) (howns : ∀ i, p.owns i) (x : CellAccess) (r : Request)
    (a : QueueAccess) (beats : List MemBeat) : Work p s (closeAck x r a beats t) := by
  unfold Machine.closeAck
  dsimp only
  have hfreed := (h.retireHead.decFlight x.cell).freePutBinding a.queue (howns x.init)
  refine tryFlushOwner ?_ hcov howns _
  split
  · exact (((hfreed.appendFree x.cell).decOpen x.queue).memoryFault x r a).offerRoom hcov
  · exact ((hfreed.commitCell x.queue x.cell).answer ..).serveTakes hcov x.queue

theorem readAck (h : Work p s t) (hcov : Covers p s) (howns : ∀ i, p.owns i) (x : CellAccess) (r : Request)
    (a : QueueAccess) (beats : List MemBeat) : Work p s (readAck x r a beats t) :=
  ((h.retireHead.decFlight x.cell).answerAccess x r a beats).tryFlushOwner hcov howns _

theorem retireCell (h : Work p s t) (hcov : Covers p s) (howns : ∀ i, p.owns i) (x : CellAccess) :
    Work p s (retireCell x t) := by
  have hlist := (h.freeTakeBinding x.queue (howns x.init)).updQueue x.queue
    (f := fun y => { y with committed := y.committed.erase x.cell }) rfl (.inr rfl)
  unfold Machine.retireCell
  dsimp only
  split
  · exact (hlist.appendFree x.cell).offerRoom hcov
  · exact hlist

theorem closeReadAck (h : Work p s t) (hcov : Covers p s) (howns : ∀ i, p.owns i) (x : CellAccess) (r : Request)
    (a : QueueAccess) (beats : List MemBeat) : Work p s (closeReadAck x r a beats t) := by
  unfold Machine.closeReadAck
  dsimp only
  refine tryFlushOwner ?_ hcov howns _
  split
  · exact (h.retireHead.decFlight x.cell).memoryFault x r a
  · exact ((h.retireHead.decFlight x.cell).answer ..).retireCell hcov howns x

theorem peekAnswer (h : Work p s t) (hcov : Covers p s) (howns : ∀ i, p.owns i) (x : CellAccess) (r : Request)
    (a : QueueAccess) (beats : List MemBeat) : Work p s (peekAnswer x r a beats t) := by
  unfold Machine.peekAnswer
  dsimp only
  have hanswer := (h.retireHead.releasePin x.cell).answerAccess x r a beats
  refine tryFlushOwner ?_ hcov howns _
  split
  · exact hanswer.offerRoom hcov
  · exact hanswer

/-! ### The take window, the peek window and the control page -/

theorem firstTake (h : Work p s t) (hbind : p.bind) (i : InitId) (r : Request) (a : QueueAccess) :
    Work p s (firstTake i r a t) := by
  unfold Machine.firstTake
  repeat' split
  · exact h.queueFault ..
  · exact h.answer ..
  · exact h.queueFault ..
  next e he _ c _ => exact (h.mark i).bindTake hbind _ _ _ _ (freeTake_eq_some he)
  · exact (h.raiseUnderrun a.queue).answer ..
  next hwait => exact h.traffic (.park t .take i r a _ hwait hbind)

theorem boundTake (h : Work p s t) (i : InitId) (r : Request) (a : QueueAccess) {e : EntryId} {b : TakeBinding}
    (hb : t.takeTable[e] = some b) (howns : p.owns b.init) : Work p s (boundTake i r a e b t) := by
  unfold Machine.boundTake
  split
  · split
    · exact h.answer ..
    · exact (h.mark i).takeRead ..
  · split
    · exact (h.endTake hb howns).answer ..
    · exact h.answer ..

theorem takeWindowRead (h : Work p s t) (hbind : p.bind) {i : InitId} (howns : p.owns i) (r : Request) (a : QueueAccess) :
    Work p s (takeWindowRead i r a t) := by
  unfold Machine.takeWindowRead
  repeat' split
  · exact h.queueFault ..
  · exact h.firstTake hbind i r a
  next e b he =>
    obtain ⟨hb, rfl, -⟩ := takeBinding_eq_some he
    exact h.boundTake _ r a hb howns

theorem peekWindowRead (h : Work p s t) (i : InitId) (r : Request) (a : QueueAccess) :
    Work p s (peekWindowRead i r a t) := by
  unfold Machine.peekWindowRead
  repeat' split
  · exact h.queueFault ..
  · exact h.queueFault ..
  · exact h.answer ..
  · exact (h.mark i).pinAndRead ..
  · exact h.answer ..

theorem abandonBinding (h : Work p s t) (hcov : Covers p s) {i : InitId} (howns : p.owns i) (q : QueueId) :
    Work p s (abandonBinding i q t) := by
  unfold Machine.abandonBinding
  split
  · exact h
  next e b he =>
    obtain ⟨hb, rfl, -⟩ := putBinding_eq_some he
    have hfreed := h.endPut hb howns
    split
    next c _ => exact ((hfreed.appendFree c).decOpen b.target).offerRoom hcov
    · exact hfreed
    · exact hfreed

theorem returnBinding (h : Work p s t) (hcov : Covers p s) {i : InitId} (howns : p.owns i) (q : QueueId) :
    Work p s (returnBinding i q t) := by
  unfold Machine.returnBinding
  split
  · exact h
  next e b he =>
    obtain ⟨hb, rfl, -⟩ := takeBinding_eq_some he
    split
    next c _ => exact ((h.updCell c _).endTake hb howns).serveTakes hcov q
    · exact h.endTake hb howns

theorem eventsWritten (h : Work p s t) {q : QueueId} (hclear : p.clear q) (b : WriteBeat) :
    Work p s (eventsWritten q b t) := by
  unfold Machine.eventsWritten
  split
  · exact h.step (.updFlags t q _ (.inl hclear))
  · exact h

theorem controlBeats (h : Work p s t) (hcov : Covers p s) {i : InitId} (howns : p.owns i) {q : QueueId}
    (hclear : p.clear q) (w : Nat) (bs : List WriteBeat) : Work p s (controlBeats i q w bs t) := by
  induction bs generalizing w t with
  | nil => exact h
  | cons b bs ih =>
    refine ih ?_ (w + 1)
    unfold controlBeat
    split
    · exact h.abandonBinding hcov howns q
    · exact h.returnBinding hcov howns q
    · exact h.eventsWritten hclear b
    · exact h

/-! ### Waits and queue commands -/

theorem expire (h : Work p s t) (hbind : p.bind) (k : SlotId) (x : Slot) : Work p s (expire k x t) := by
  unfold Machine.expire
  split
  · exact (((h.vacate k).raiseUnderrun x.queue).raiseExpired x.queue).answer ..
  · have hraised := (h.vacate k).raiseExpired x.queue
    unfold expirePut
    dsimp only
    split
    · exact hraised.respondFault ..
    next e he => exact hraised.dropWrite hbind _ _ _ (freePut_eq_some he)

theorem expireDue (h : Work p s t) (hcov : Covers p s) (order : List SlotId) : Work p s (expireDue order t) := by
  refine foldl (fun u k hu => ?_) order h
  repeat' split
  next x hslot _ => exact hu.expire (hu.covers hcov k (by simp [hslot])) k x
  · exact hu
  · exact hu

theorem advanceTick (h : Work p s t) (hcov : Covers p s) (htick : p.tick) : Work p s (advanceTick t) :=
  (h.step (.tick t htick)).expireDue hcov _

theorem releaseHeld (h : Work p s t) (q : QueueId) {f : SlotId → Slot → State → State}
    (hf : ∀ k x u, Work p s u → Work p s (f k x u)) : Work p s (releaseHeld q f t) := by
  refine foldl (fun u k hu => ?_) _ h
  repeat' split
  · exact hf k _ u hu
  · exact hu
  · exact hu

theorem releaseDisabled (h : Work p s t) (k : SlotId) (x : Slot) : Work p s (releaseDisabled k x t) := by
  unfold Machine.releaseDisabled
  dsimp only
  split
  · exact ((h.vacate k).raiseUnderrun x.queue).answer ..
  · exact (h.vacate k).respondFault ..

theorem disableQueue (h : Work p s t) (q : QueueId) : Work p s (disableQueue q t) := by
  unfold Machine.disableQueue
  split
  next hstate =>
    have hrest : (t.queue q).isFlushing = false := by rw [QueueCtx.isFlushing, hstate]
    exact (h.updQueue q (f := fun x => { x with state := .rest .disabled }) rfl (.inr hrest.symm)).releaseHeld q
      fun k x _ hu => hu.releaseDisabled k x
  · exact h

theorem startFlush (h : Work p s t) (howns : ∀ i, p.owns i) (q : QueueId) : Work p s (startFlush q t) :=
  (releaseHeld (h.updQueue q (f := fun x => { x with state := x.state.flushed }) rfl (.inl howns)) q
    fun k _ _ hu => (hu.vacate k).answer ..).setPending _ howns

theorem flushQueue (h : Work p s t) (hcov : Covers p s) (howns : ∀ i, p.owns i) (q : QueueId) :
    Work p s (flushQueue q t).1 := by
  unfold Machine.flushQueue
  dsimp only
  split
  · exact (h.startFlush howns q).completeFlush hcov howns q
  · exact h.startFlush howns q

/-! ### SYS_RESET -/

theorem dropAccess (h : Work p s t) (x : CellAccess) : Work p s (dropAccess x t) := by
  unfold Machine.dropAccess
  split
  · exact h.releasePin x.cell
  all_goals exact h.decFlight x.cell

theorem dropWaiter (h : Work p s t) (w : Waiter) : Work p s (dropWaiter t w) := by
  unfold Machine.dropWaiter
  split
  · exact h.dropAccess _
  · exact h
  · exact h

theorem freeBound (h : Work p s t) (e : EntryId) : Work p s (freeBound t e) := by
  unfold Machine.freeBound
  split
  · split
    · exact ((h.updCell _ _).setFree _).decOpen _
    · exact h
    · exact h
  · exact h

theorem requeueBound (h : Work p s t) (e : EntryId) : Work p s (requeueBound t e) := by
  unfold Machine.requeueBound
  split
  · split
    · exact h.updCell _ _
    · exact h
  · exact h

theorem resetTables (h : Work p s t) (howns : ∀ i, p.owns i) : Work p s (resetTables t) := by
  have hput := foldl (fun _ e hu => hu.freeBound e) upTo16 h
  have htake := foldl (fun _ e hu => hu.requeueBound e) upTo16 hput
  unfold Machine.resetTables
  dsimp only
  generalize upTo16.foldl Machine.requeueBound (upTo16.foldl Machine.freeBound t) = u at htake ⊢
  exact htake.step (.clearTables u howns)

theorem assertSysReset (h : Work p s t) (hcov : Covers p s) (howns : ∀ i, p.owns i) (hlatch : ∀ i, p.latch i) :
    Work p s (assertSysReset t) := by
  have hpin : Work p s { t with sysReset := true } := h.step (.pins t t.pwrReset true)
  have htables := resetTables (hpin.step (.resetUnits _ hlatch)) howns
  exact (foldl (fun _ w hu => hu.dropWaiter w) t.waiting htables).settleDrain hcov howns

/-! ### The Merge Unit -/

theorem setStage (h : Work p s t) (i : InitId) (stage : BeatStage) : Work p s (setStage i stage t) := h.setMerge i _

theorem endMerge (h : Work p s t) (i : InitId) : Work p s (endMerge i t) := (h.setMerge i none).releaseLock i

theorem invalidate (h : Work p s t) {i : InitId} (hlatch : p.latch i) : Work p s (invalidate i t) :=
  h.setLatch i _ hlatch

theorem beatComputed (h : Work p s t) {i : InitId} (hlatch : p.latch i) (m : MergeAccess) (j : Nat) (old : Word) :
    Work p s (beatComputed i m j old t) := by
  unfold Machine.beatComputed
  dsimp only
  split
  · exact ((h.endMerge i).answer ..).invalidate hlatch
  · exact ((h.setStage i .writing).lockWriting i).issue _

end Work

end Sys2Proof.Machine
end

section
/-! PROOF. Every command but PWR_RESET_ASSERT is a run of updates under its permissions. -/

namespace Sys2Proof.Machine

/-! ### The permissions of a command -/

/-- The commands in whose step a flush may start or complete, or bindings of every initiator may end: the acknowledgements of
cell accesses, the flush and its completion, and SYS_RESET with its drain. -/
def flushCommand : Instr → Bool
  | .compositionWriteAck _ | .closingWriteAck _ | .putWindowReadAck _ | .takeReadAck _ | .closingReadAck _ | .peekAck _ => true
  | .discardedAck _ | .flushCompletion _ | .queueFlush _ | .sysResetAssert | .resetDrainEnd => true
  | _ => false

/-- What a command may change in a state. -/
def permOf (c : Instr) (s : State) : Perm where
  bind := Active s
  owns := fun j => flushCommand c = true ∨ c ∈ windowCommand j
  latch := fun j => c = .sysResetAssert ∨ c = .mergeWrite j ∨ ∃ m rest beats, s.outstanding = m :: rest ∧
    ((c = .mergeReadAck beats ∧ m.owner = .mergeRead j) ∨ (c = .mergeBeatReadAck beats ∧ m.owner = .beatRead j) ∨
      (c = .mergeBeatWriteAck beats ∧ m.owner = .beatWrite j))
  clear := fun q => (∃ b sel, c = .eventsClear b sel ∧ b.toNat = q.val) ∨
    ∃ i, c = .eventsWrite i ∨ c = .abandon i ∨ c = .returnWord i
  config := fun _ => ∃ b im, c = .queueConfigWrite b im
  apertures := tableCommand c = true
  pool := ∃ b n g, c = .poolConfig b n g
  steer := c = .steerOn ∨ c = .steerOff
  interval := ∃ n, c = .tickConfig n
  routing := ∃ r, c = .lineConfig r
  tick := c = .tickAdvance
  drop := c = .faultDrop
  link := True

/-- Where a request is held the part is active. -/
theorem covers_permOf (c : Instr) (s : State) : Covers (permOf c s) s := fun k hk => .inr (.inr (.inl ⟨k, hk⟩))

theorem owns_permOf {c : Instr} (hc : flushCommand c = true) (s : State) (j : InitId) : (permOf c s).owns j := .inl hc

/-- The command answers a next state, which work under the permissions reaches. -/
def WorkDone (p : Perm) (s : State) (o : Host.Outcome State Fault Refusal) : Prop := ∃ t, o = .next t ∧ Work p s t

@[simp] theorem workDone_next {p : Perm} {s t : State} : WorkDone p s (.next t) ↔ Work p s t :=
  ⟨fun ⟨u, hu, h⟩ => by cases hu; exact h, fun h => ⟨t, rfl, h⟩⟩

theorem workDone_finish {p : Perm} {s t : State} (h : Work p s t) : WorkDone p s (finish t) :=
  workDone_next.mpr h.notify

/-! ### What a found request says of the part -/

theorem head_of_current {s : State} {i : InitId} {e : Accepted} (h : s.current i = some e) : s.channels[i].head? = some e := by
  unfold State.current at h
  split at h
  · cases h
  · exact h

theorem head_of_performing {s : State} {i : InitId} {e : Accepted} (h : s.performing i = some e) :
    s.channels[i].head? = some e := by
  unfold State.performing at h
  split at h
  · exact h
  · cases h

/-- A steered request at the head of a channel makes the part active. -/
theorem active_of_head {s : State} {i : InitId} {e : Accepted} (h : s.channels[i].head? = some e)
    (hsteered : e.decoded.steered = true) : Active s :=
  .inr (.inr (.inr ⟨i, e, List.mem_of_head? h, hsteered⟩))

theorem current_of_windowRequest {s : State} {w : Window} {i : InitId} {r : Request} {a : QueueAccess}
    (h : s.windowRequest w i = some (r, a)) :
    s.drain = false ∧ s.current i = some { req := r, decoded := .queue a } ∧ a.window = w := by
  unfold State.windowRequest at h
  split at h
  · cases h
  next hdrain =>
    split at h
    next heq =>
      split at h
      · cases h; exact ⟨by simpa using hdrain, heq, by assumption⟩
      · cases h
    · cases h

theorem active_of_windowRequest {s : State} {w : Window} {i : InitId} {r : Request} {a : QueueAccess}
    (h : s.windowRequest w i = some (r, a)) : Active s :=
  active_of_head (head_of_current (current_of_windowRequest h).2.1) rfl

theorem active_of_findHeld {s : State} {test : Slot → Bool} {k : SlotId} {x : Slot}
    (h : s.findHeld test = some (k, x)) : Active s := by
  obtain ⟨-, hslot, -⟩ := findHeld_eq_some h
  exact .inr (.inr (.inl ⟨k, by simp [hslot]⟩))

/-- A live acknowledgement is that of the head of the outstanding list (R165). -/
theorem outstanding_of_ackLive {s : State} {beats : List MemBeat} {m : MemReq} (h : s.ackLive beats = some m) :
    ∃ rest, s.outstanding = m :: rest ∧ m.fate = .live ∧ beats.length = m.count := by
  unfold State.ackLive State.acknowledged at h
  cases hout : s.outstanding with
  | nil => simp [hout] at h
  | cons r rest =>
    by_cases hlen : beats.length = r.count <;> by_cases hfate : r.fate = .live <;> simp [hout, hlen, hfate] at h
    subst h
    exact ⟨rest, rfl, hfate, hlen⟩

/-! ### Link commands -/

/-- The answer of a link command in a frame being received. -/
theorem workDone_answerLink {p : Perm} {s t : State} (h : Work p s t) (hlink : p.link) (hframe : t.frame ≠ .outside)
    (status : LinkStatus) (data : List Byte) : WorkDone p s (answerLink status data t) :=
  workDone_finish (h.step (.link t _ t.select t.mdoSent hlink fun hsel _ => hsel hframe))

/-- Bytes clocked after the command. -/
theorem workDone_clockBytes {p : Perm} (hlink : p.link) {s : State} {left : List Byte} (hframe : s.frame = .responding left)
    (n : Nat) : WorkDone p s (.next (clockBytes n left s)) :=
  workDone_next.mpr (Work.refl.step (.link s _ s.select _ hlink fun hsel _ => hsel (by simp [hframe])))

/-- The permissions with or without that to change the frame in progress. -/
def Perm.linked (p : Perm) (l : Prop) : Perm := { p with link := l }

/-- The bytes of a link command are work when the command's own work is, which leaves the frame as it is. -/
theorem workDone_carryOut {c : Instr} {always : Bool} {code : Byte}
    {body : State → Option (State × LinkStatus × List Byte)} {s : State}
    (hbody : ∀ r ∈ body s, ∀ l, Work ((permOf c s).linked l) s r.1) :
    WorkDone (permOf c s) s (carryOut always code body s) := by
  unfold carryOut
  split
  · exact workDone_next.mpr .refl
  next hframe =>
    have hout : s.frame ≠ .outside := by simp [hframe]
    unfold decideLink
    split
    · exact workDone_answerLink .refl trivial hout _ _
    · split
      · exact workDone_answerLink .refl trivial hout _ _
      next t status data hr =>
        have hframe : t.frame = s.frame := (hbody _ hr False).frame_eq id
        exact workDone_answerLink (hbody _ hr True) trivial (hframe ▸ hout) _ _
  next left hframe => exact workDone_clockBytes trivial hframe _

/-- A link command on the entry or queue that an index byte names. -/
theorem workDone_carryOut_index {c : Instr} {always : Bool} {code b : Byte}
    {f : Fin 16 → State → State × LinkStatus × List Byte} {s : State}
    (hf : ∀ k, b.toNat = k.val → ∀ l, Work ((permOf c s).linked l) s (f k s).1) :
    WorkDone (permOf c s) s (carryOut always code (fun s => (index16? b).map (fun k => f k s)) s) :=
  workDone_carryOut fun r hr => by
    obtain ⟨k, hk, rfl⟩ := Option.map_eq_some_iff.mp hr
    exact hf k (toNat_eq_of_index16? hk)

/-! ### Commands -/

/-- What the proofs about single commands are about: the command is work under its permissions. -/
def IsWork (c : Instr) (s : State) : Prop := WorkDone (permOf c s) s (exec c s)

/-! #### System port -/

theorem requestAccept_isWork (i : InitId) (offer : Option Request) (s : State) : IsWork (.requestAccept i offer) s := by
  change WorkDone _ s (execRequestAccept i offer s)
  unfold execRequestAccept
  split
  · exact workDone_next.mpr (Work.refl.accept i)
  · split
    · exact workDone_next.mpr ((Work.refl.offer i _).accept i)
    · exact workDone_next.mpr .refl

theorem adRefusalAnswer_isWork (i : InitId) (s : State) : IsWork (.adRefusalAnswer i) s := by
  change WorkDone _ s (execAdRefusalAnswer i s)
  unfold execAdRefusalAnswer
  split
  · exact workDone_finish (Work.refl.respondFault ..)
  · exact workDone_next.mpr .refl

theorem passThrough_isWork (i : InitId) (s : State) : IsWork (.passThrough i) s := by
  change WorkDone _ s (execPassThrough i s)
  unfold execPassThrough
  split
  · exact workDone_next.mpr ((Work.refl.mark i).handOver _)
  · exact workDone_next.mpr .refl

theorem passThroughAck_isWork (beats : List MemBeat) (s : State) : IsWork (.passThroughAck beats) s := by
  change WorkDone _ s (execPassThroughAck beats s)
  unfold execPassThroughAck
  split
  · split
    · exact workDone_next.mpr (Work.refl.retireHead.answer ..)
    · exact workDone_next.mpr .refl
  · exact workDone_next.mpr .refl

theorem summaryRead_isWork (i : InitId) (s : State) : IsWork (.summaryRead i) s := by
  change WorkDone _ s (execSummaryRead i s)
  unfold execSummaryRead
  split
  · exact workDone_next.mpr (Work.refl.answer ..)
  · exact workDone_next.mpr .refl

/-! #### Windows -/

theorem owns_window {c : Instr} {i : InitId} (hc : c ∈ windowCommand i) (s : State) : (permOf c s).owns i := .inr hc

theorem putWindowWrite_isWork (i : InitId) (s : State) : IsWork (.putWindowWrite i) s := by
  change WorkDone _ s (execPutWindowWrite i s)
  unfold execPutWindowWrite
  split
  next r a hturn =>
    split
    · exact workDone_finish (Work.refl.putWrite (active_of_windowRequest hturn) (owns_window (by simp [windowCommand]) s) r a)
    · exact workDone_next.mpr .refl
  · exact workDone_next.mpr .refl

theorem putWindowRead_isWork (i : InitId) (s : State) : IsWork (.putWindowRead i) s := by
  change WorkDone _ s (execPutWindowRead i s)
  unfold execPutWindowRead
  split
  · split
    · exact workDone_next.mpr .refl
    · exact workDone_finish (Work.refl.putWindowRead ..)
  · exact workDone_next.mpr .refl

theorem takeWindowRead_isWork (i : InitId) (s : State) : IsWork (.takeWindowRead i) s := by
  change WorkDone _ s (execTakeWindowRead i s)
  unfold execTakeWindowRead
  split
  next r a hturn =>
    split
    · exact workDone_next.mpr .refl
    · exact workDone_finish
        (Work.refl.takeWindowRead (active_of_windowRequest hturn) (owns_window (by simp [windowCommand]) s) r a)
  · exact workDone_next.mpr .refl

theorem peekRead_isWork (i : InitId) (s : State) : IsWork (.peekRead i) s := by
  change WorkDone _ s (execPeekRead i s)
  unfold execPeekRead
  split
  · split
    · exact workDone_next.mpr .refl
    · exact workDone_finish (Work.refl.peekWindowRead ..)
  · exact workDone_next.mpr .refl

/-- An acknowledgement of a cell access that is the command's own is work when its work is. -/
theorem workDone_cellAck {p : Perm} {s : State} {o : Option (CellAccess × Request × QueueAccess)} {own : CellAccess → Prop}
    [DecidablePred own] {f : CellAccess → Request → QueueAccess → State} (hf : ∀ x r a, Work p s (f x r a)) :
    WorkDone p s (match o with
      | some (x, r, a) => if own x then finish (f x r a) else .next s
      | none => .next s) := by
  repeat' split
  · exact workDone_finish (hf _ _ _)
  all_goals exact workDone_next.mpr .refl

/-! #### Control page -/

/-- A control-page write is work where it may clear sticky flags or its words touch none. -/
theorem workDone_controlWriteIf {c : Instr} {test : List Nat → Bool} {i : InitId} {s : State}
    (howns : c ∈ windowCommand i) (hclear : ∀ q, (permOf c s).clear q) :
    WorkDone (permOf c s) s (controlWriteIf test i s) := by
  unfold controlWriteIf
  split
  next a bs _ =>
    split
    · exact workDone_finish ((Work.refl.controlBeats (covers_permOf c s) (owns_window howns s) (hclear a.queue) a.first bs).answer ..)
    · exact workDone_next.mpr .refl
  · exact workDone_next.mpr .refl

/-- Writing words without an effect changes nothing (R127). -/
theorem controlBeats_noEffect (i : InitId) (q : QueueId) (w : Nat) (bs : List WriteBeat) (s : State)
    (h : ∀ j < bs.length, w + j ∉ effectWords) : controlBeats i q w bs s = s := by
  induction bs generalizing w with
  | nil => rfl
  | cons b bs ih =>
    have hw : w ∉ effectWords := h 0 (by simp)
    have hbeat : controlBeat i q w b s = s := by
      unfold controlBeat
      split <;> first | rfl | simp [effectWords] at hw
    rw [controlBeats, hbeat]
    exact ih (w + 1) fun j hj => by
      have := h (j + 1) (by simpa using hj)
      rwa [← Nat.add_assoc, Nat.add_right_comm] at this

theorem controlWordWrite_isWork (i : InitId) (s : State) : IsWork (.controlWordWrite i) s := by
  change WorkDone _ s (execControlWordWrite i s)
  unfold execControlWordWrite controlWriteIf
  split
  next a bs _ =>
    split
    next hwords =>
      have hnone : ∀ j < bs.length, a.first + j ∉ effectWords := by
        simpa [QueueAccess.words] using hwords
      rw [performControlWrite, controlBeats_noEffect i a.queue a.first bs s hnone]
      exact workDone_finish (Work.refl.answer ..)
    · exact workDone_next.mpr .refl
  · exact workDone_next.mpr .refl

theorem controlPageRead_isWork (i : InitId) (s : State) : IsWork (.controlPageRead i) s := by
  change WorkDone _ s (execControlPageRead i s)
  unfold execControlPageRead
  split
  · exact workDone_next.mpr (Work.refl.answer ..)
  · exact workDone_next.mpr .refl

/-! #### Merge Unit -/

theorem mergeRead_isWork (i : InitId) (s : State) : IsWork (.mergeRead i) s := by
  change WorkDone _ s (execMergeRead i s)
  unfold execMergeRead
  split
  · split
    · exact workDone_next.mpr .refl
    · exact workDone_next.mpr ((Work.refl.mark i).handOver _)
  · exact workDone_next.mpr .refl

theorem mergeReadAck_isWork (beats : List MemBeat) (s : State) : IsWork (.mergeReadAck beats) s := by
  change WorkDone _ s (execMergeReadAck beats s)
  unfold execMergeReadAck
  split
  next i fate hack =>
    obtain ⟨rest, hout, -, -⟩ := outstanding_of_ackLive hack
    have hlatch : (permOf (.mergeReadAck beats) s).latch i := Or.inr (.inr ⟨_, rest, beats, hout, .inl ⟨rfl, rfl⟩⟩)
    repeat' split
    · exact workDone_finish (Work.refl.retireHead.mergeFault ..)
    · exact workDone_finish ((Work.refl.retireHead.setLatch i _ hlatch).answer ..)
    all_goals exact workDone_next.mpr .refl
  · exact workDone_next.mpr .refl

theorem mergeWrite_isWork (i : InitId) (s : State) : IsWork (.mergeWrite i) s := by
  change WorkDone _ s (execMergeWrite i s)
  unfold execMergeWrite
  repeat' split
  · exact workDone_finish ((Work.refl.mergeFault ..).invalidate (Or.inr (.inl rfl)))
  · exact workDone_next.mpr ((Work.refl.mark i).setMerge i _)
  all_goals exact workDone_next.mpr .refl

theorem mergeBeatLock_isWork (i : InitId) (s : State) : IsWork (.mergeBeatLock i) s := by
  change WorkDone _ s (execMergeBeatLock i s)
  unfold execMergeBeatLock
  split
  next m j _ =>
    dsimp only
    split
    next hmay => exact workDone_next.mpr (Work.refl.traffic (.takeLock s i _ hmay))
    next hmay =>
      exact workDone_next.mpr ((Work.refl.setStage i .waiting).traffic (.waitBeat _ i _ (Bool.eq_false_iff.mpr hmay)))
  · exact workDone_next.mpr .refl

theorem mergeBeatReadIssue_isWork (i : InitId) (s : State) : IsWork (.mergeBeatReadIssue i) s := by
  change WorkDone _ s (execMergeBeatReadIssue i s)
  unfold execMergeBeatReadIssue
  split
  · dsimp only
    split
    · exact workDone_next.mpr ((Work.refl.setStage i .reading).issue _)
    · exact workDone_next.mpr .refl
  · exact workDone_next.mpr .refl

theorem mergeBeatReadAck_isWork (beats : List MemBeat) (s : State) : IsWork (.mergeBeatReadAck beats) s := by
  change WorkDone _ s (execMergeBeatReadAck beats s)
  unfold execMergeBeatReadAck
  split
  next i fate hack =>
    obtain ⟨rest, hout, -, -⟩ := outstanding_of_ackLive hack
    have hlatch : (permOf (.mergeBeatReadAck beats) s).latch i :=
      Or.inr (.inr ⟨_, rest, beats, hout, .inr (.inl ⟨rfl, rfl⟩)⟩)
    split
    next m j b _ =>
      split
      · have hfault := ((Work.refl (p := permOf (.mergeBeatReadAck [b]) s) (s := s)).retireHead.endMerge i).mergeFault .memory i m
        dsimp only
        split
        · exact workDone_finish hfault
        · exact workDone_finish (hfault.invalidate hlatch)
      · exact workDone_finish (Work.refl.retireHead.beatComputed hlatch m j b.data)
    · exact workDone_next.mpr .refl
  · exact workDone_next.mpr .refl

theorem mergeBeatWriteAck_isWork (beats : List MemBeat) (s : State) : IsWork (.mergeBeatWriteAck beats) s := by
  change WorkDone _ s (execMergeBeatWriteAck beats s)
  unfold execMergeBeatWriteAck
  split
  next i fate hack =>
    obtain ⟨rest, hout, -, -⟩ := outstanding_of_ackLive hack
    have hlatch : (permOf (.mergeBeatWriteAck beats) s).latch i :=
      Or.inr (.inr ⟨_, rest, beats, hout, .inr (.inr ⟨rfl, rfl⟩)⟩)
    split
    next m j _ =>
      have hend := (Work.refl (p := permOf (.mergeBeatWriteAck beats) s) (s := s)).retireHead.endMerge i
      dsimp only
      split
      · exact workDone_finish ((hend.mergeFault .memory i m).invalidate hlatch)
      · split
        · exact workDone_next.mpr (hend.setMerge i _)
        · exact workDone_finish ((hend.answer ..).invalidate hlatch)
    · exact workDone_next.mpr .refl
  · exact workDone_next.mpr .refl

/-! #### Waits -/

theorem tickAdvance_isWork (s : State) : IsWork .tickAdvance s := by
  change WorkDone _ s (execTickAdvance s)
  unfold execTickAdvance
  split
  · exact workDone_next.mpr .refl
  · exact workDone_finish (Work.refl.advanceTick (covers_permOf _ s) rfl)

theorem heldTakeExpiry_isWork (i : InitId) (s : State) : IsWork (.heldTakeExpiry i) s := by
  change WorkDone _ s (execHeldTakeExpiry i s)
  unfold execHeldTakeExpiry
  split
  next k x _ => exact workDone_finish ((((Work.refl.vacate k).raiseUnderrun x.queue).raiseExpired x.queue).answer ..)
  · exact workDone_next.mpr .refl

theorem heldPutExpiry_isWork (i : InitId) (s : State) : IsWork (.heldPutExpiry i) s := by
  change WorkDone _ s (execHeldPutExpiry i s)
  unfold execHeldPutExpiry
  split
  next k x hx =>
    refine workDone_finish ?_
    have hput : x.kind = .put := by
      obtain ⟨-, -, htest⟩ := findHeld_eq_some hx
      simp only [Bool.and_eq_true, decide_eq_true_eq] at htest
      exact htest.1.1
    have hexpire := (Work.refl (p := permOf (.heldPutExpiry i) s) (s := s)).expire (active_of_findHeld hx) k x
    rwa [expire, hput] at hexpire
  · exact workDone_next.mpr .refl

theorem heldPutGrant_isWork (s : State) : IsWork .heldPutGrant s := by
  change WorkDone _ s (execHeldPutGrant s)
  unfold execHeldPutGrant
  repeat' split
  · exact workDone_next.mpr .refl
  next k x hx => exact workDone_finish (Work.refl.grant (active_of_findHeld hx) k x)
  · exact workDone_next.mpr .refl

theorem heldTakeService_isWork (q : QueueId) (s : State) : IsWork (.heldTakeService q) s := by
  change WorkDone _ s (execHeldTakeService q s)
  unfold execHeldTakeService
  split
  next k x c hx _ => exact workDone_finish (Work.refl.serve (active_of_findHeld hx) k x c)
  · exact workDone_next.mpr .refl

theorem flushCompletion_isWork (q : QueueId) (s : State) : IsWork (.flushCompletion q) s := by
  change WorkDone _ s (execFlushCompletion q s)
  unfold execFlushCompletion
  split
  · exact workDone_finish (Work.refl.completeFlush (covers_permOf _ s) (owns_permOf rfl s) q)
  · exact workDone_next.mpr .refl

/-! #### Resets -/

theorem sysResetAssert_isWork (s : State) : IsWork .sysResetAssert s := by
  change WorkDone _ s (execSysResetAssert s)
  unfold execSysResetAssert
  repeat' split
  · exact workDone_next.mpr .refl
  · exact workDone_next.mpr (Work.refl.step (.pins s s.pwrReset true))
  · exact workDone_finish (Work.refl.assertSysReset (covers_permOf _ s) (owns_permOf rfl s)
      fun _ => Or.inl rfl)

theorem resetDrainEnd_isWork (s : State) : IsWork .resetDrainEnd s := by
  change WorkDone _ s (execResetDrainEnd s)
  unfold execResetDrainEnd
  split
  · exact workDone_finish (Work.refl.endDrain (covers_permOf _ s) (owns_permOf rfl s))
  · exact workDone_next.mpr .refl

theorem discardedAck_isWork (beats : List MemBeat) (s : State) : IsWork (.discardedAck beats) s := by
  have hretire : Work (permOf (.discardedAck beats) s) s (retireHead s) := Work.refl.retireHead
  change WorkDone _ s (execDiscardedAck beats s)
  unfold execDiscardedAck
  split
  · split
    · exact workDone_next.mpr .refl
    · exact workDone_next.mpr hretire
    · split
      · exact workDone_finish ((hretire.dropAccess _).settleDrain (covers_permOf _ s)
          (owns_permOf rfl s))
      all_goals exact workDone_next.mpr hretire
  · exact workDone_next.mpr .refl

theorem pwrResetRelease_isWork (s : State) : IsWork .pwrResetRelease s := by
  change WorkDone _ s (execPwrResetRelease s)
  unfold execPwrResetRelease
  split
  · exact workDone_next.mpr ((Work.refl.step (.pins s false s.sysReset)).step (.elapse _ 0 (.inr rfl)))
  · exact workDone_next.mpr .refl

/-! #### Frames -/

/-- The release of select leaves the link outside any frame. -/
theorem work_releaseSelect {p : Perm} (hlink : p.link) (s : State) (mdo : List Bool) :
    Work p s { s with select := false, frame := .outside, mdoSent := mdo } :=
  Work.refl.step (.link s .outside false mdo hlink fun _ h => absurd rfl h)

theorem frameStart_isWork (s : State) : IsWork .frameStart s := by
  change WorkDone _ s (execFrameStart s)
  unfold execFrameStart
  split
  · exact workDone_next.mpr .refl
  · exact workDone_next.mpr (Work.refl.step (.link s _ true s.mdoSent trivial fun _ _ => rfl))

theorem frameEnd_isWork (s : State) : IsWork .frameEnd s := by
  change WorkDone _ s (execFrameEnd s)
  unfold execFrameEnd
  split
  · exact workDone_next.mpr (work_releaseSelect trivial s s.mdoSent)
  · exact workDone_next.mpr .refl
  · exact workDone_next.mpr (work_releaseSelect trivial s _)

theorem frameAbort_isWork (s : State) : IsWork .frameAbort s := by
  change WorkDone _ s (execFrameAbort s)
  unfold execFrameAbort
  split
  · exact workDone_next.mpr (work_releaseSelect trivial s s.mdoSent)
  · exact workDone_next.mpr (work_releaseSelect trivial s s.mdoSent)
  · exact workDone_next.mpr .refl

theorem responseCut_isWork (s : State) : IsWork .responseCut s := by
  change WorkDone _ s (execResponseCut s)
  unfold execResponseCut
  repeat' split
  · exact workDone_next.mpr (work_releaseSelect trivial s s.mdoSent)
  · exact workDone_next.mpr .refl
  · exact workDone_next.mpr (work_releaseSelect trivial s s.mdoSent)
  · exact workDone_next.mpr .refl

theorem unknownCommand_isWork (code : Byte) (s : State) : IsWork (.unknownCommand code) s := by
  change WorkDone _ s (execUnknownCommand code s)
  unfold execUnknownCommand
  split
  · split
    · exact workDone_next.mpr .refl
    next hframe => exact workDone_answerLink .refl trivial (by simp [hframe]) _ _
    next left hframe => exact workDone_clockBytes trivial hframe 1
  · exact workDone_next.mpr .refl

/-! #### Link commands -/

theorem writeAperture_work {p : Perm} (hp : p.apertures) (k : ApId) (a : Aperture) (s : State) :
    Work p s (writeAperture k a s).1 := by
  unfold writeAperture
  split
  · exact Work.refl.record _
  · exact Work.refl.step (.setAperture s k a hp)

theorem enableAperture_work {p : Perm} (hp : p.apertures) (k : ApId) (s : State) : Work p s (enableAperture k s).1 := by
  unfold enableAperture
  dsimp only
  repeat' split
  · exact .refl
  · exact Work.refl.step (.setAperture s k _ hp)
  · exact .refl

theorem limit?_eq_some {v : BitVec 16} {n : Nat} (h : limit? v = some n) : 1 ≤ n ∧ n ≤ 1024 := by
  unfold limit? at h
  split at h <;> cases h
  assumption

theorem watermark?_eq_some {v : BitVec 16} {n : Nat} (h : watermark? v = some n) : n ≤ 1024 := by
  unfold watermark? at h
  split at h <;> cases h
  assumption

/-- A well-encoded configuration lies in the ranges of R12. -/
theorem inRange_of_queueConfig? {im : ConfigImage} {c : QueueConfig} (h : queueConfig? im = some c) : c.inRange := by
  obtain ⟨len, -, h⟩ := Option.bind_eq_some_iff.mp h
  obtain ⟨limit, hlimit, h⟩ := Option.bind_eq_some_iff.mp h
  obtain ⟨policy, -, h⟩ := Option.bind_eq_some_iff.mp h
  obtain ⟨target, -, h⟩ := Option.bind_eq_some_iff.mp h
  obtain ⟨report, -, h⟩ := Option.bind_eq_some_iff.mp h
  obtain ⟨watermark, hwatermark, h⟩ := Option.bind_eq_some_iff.mp h
  obtain ⟨line, -, h⟩ := Option.bind_eq_some_iff.mp h
  obtain ⟨mask, -, h⟩ := Option.bind_eq_some_iff.mp h
  cases h
  obtain ⟨hmin, hmax⟩ := limit?_eq_some hlimit
  exact ⟨hmin, hmax, watermark?_eq_some hwatermark⟩

theorem writeConfig_work {p : Perm} {q : QueueId} (hp : p.config q) {c : QueueConfig} (hc : c.inRange) (s : State) :
    Work p s (writeConfig q c s).1 := by
  unfold writeConfig
  split
  · exact Work.refl.step (.config s q c 0#16 hp hc)
  · exact Work.refl.record _

theorem enableQueue_work {p : Perm} (q : QueueId) (s : State) : Work p s (enableQueue q s).1 := by
  have hflush : ({ s.queue q with state := (s.queue q).state.enabled } : QueueCtx).isFlushing = (s.queue q).isFlushing := by
    unfold QueueCtx.isFlushing
    cases (s.queue q).state <;> rfl
  unfold enableQueue
  split
  · exact Work.refl.record _
  · exact Work.refl.updQueue q (f := fun x => { x with state := x.state.enabled }) rfl (.inr hflush)

theorem configPool_work {p : Perm} (hp : p.pool) {base : Addr} {n : Nat} (hbase : base.toNat % 262144 = 0)
    (hn : n = 0 ∨ (16 ≤ n ∧ n ≤ 1024 ∧ n % 16 = 0)) (g : Bool) (s : State) : Work p s (configPool base n g s).1 := by
  unfold configPool
  split
  · exact Work.refl.step (.buildPool s base n g hp hbase hn)
  · exact Work.refl.record _

theorem arenaBase?_eq_some {a b : Addr} (h : arenaBase? a = some b) : b = a ∧ a.toNat % 262144 = 0 := by
  unfold arenaBase? at h
  split at h <;> cases h
  exact ⟨rfl, by assumption⟩

theorem poolSize?_eq_some {v : BitVec 16} {n : Nat} (h : poolSize? v = some n) :
    n = v.toNat ∧ (n = 0 ∨ (16 ≤ n ∧ n ≤ 1024 ∧ n % 16 = 0)) := by
  unfold poolSize? at h
  split at h <;> cases h
  exact ⟨rfl, by assumption⟩

theorem apertureWrite_isWork (b : Byte) (im : ApertureImage) (s : State) : IsWork (.apertureWrite b im) s := by
  refine workDone_carryOut fun r hr l => ?_
  split at hr
  · cases hr; exact writeAperture_work rfl _ _ s
  · cases hr

theorem queueConfigWrite_isWork (b : Byte) (im : ConfigImage) (s : State) : IsWork (.queueConfigWrite b im) s := by
  refine workDone_carryOut fun r hr l => ?_
  split at hr
  next q c hq hc => cases hr; exact writeConfig_work (Exists.intro b ⟨im, rfl⟩) (inRange_of_queueConfig? hc) s
  · cases hr

theorem eventsClear_isWork (b sel : Byte) (s : State) : IsWork (.eventsClear b sel) s := by
  refine workDone_carryOut fun r hr l => ?_
  split at hr
  next q f hq _ =>
    cases hr
    exact Work.refl.step (.updFlags s q (fun g => g.clear f) (.inl (Or.inl ⟨b, sel, rfl, toNat_eq_of_index16? hq⟩)))
  · cases hr

theorem poolConfig_isWork (base : Addr) (cells : BitVec 16) (g : Byte) (s : State) :
    IsWork (.poolConfig base cells g) s := by
  refine workDone_carryOut fun r hr l => ?_
  split at hr
  next hbase hn _ =>
    cases hr
    obtain ⟨rfl, haligned⟩ := arenaBase?_eq_some hbase
    exact configPool_work (Exists.intro _ ⟨cells, g, rfl⟩) haligned (poolSize?_eq_some hn).2 _ s
  · cases hr

theorem lineConfig_isWork (routing : Byte) (s : State) : IsWork (.lineConfig routing) s := by
  refine workDone_carryOut fun r hr l => ?_
  obtain ⟨l, -, rfl⟩ := Option.map_eq_some_iff.mp hr
  exact Work.refl.step (.routing s l (Exists.intro routing rfl))

/-- A quiet part is not active (R116). -/
theorem not_active_of_quiet {s : State} (h : s.quiet = true) : ¬ Active s := by
  simp only [State.quiet, Bool.and_eq_true, List.all_eq_true, Vector.mem_toList_iff] at h
  obtain ⟨⟨⟨⟨⟨⟨hput, htake⟩, hslots⟩, -⟩, -⟩, hchannels⟩, -⟩ := h
  rintro (⟨e, he⟩ | ⟨e, he⟩ | ⟨k, hk⟩ | ⟨i, x, hx, hsteered⟩)
  · exact he (by simpa using hput _ (Vector.getElem_mem e.isLt))
  · exact he (by simpa using htake _ (Vector.getElem_mem e.isLt))
  · exact hk (by simpa using hslots _ (Vector.getElem_mem k.isLt))
  · have := hchannels _ (Vector.getElem_mem i.isLt) x hx
    simp [hsteered] at this

theorem steerOff_isWork (s : State) : IsWork .steerOff s := by
  refine workDone_carryOut fun r hr l => ?_
  cases hr
  split
  · exact .refl
  · split
    next hquiet => exact Work.refl.step (.steerOff s (Or.inr rfl) hquiet (not_active_of_quiet hquiet))
    · exact .refl

theorem tickConfig_isWork (n : BitVec 16) (s : State) : IsWork (.tickConfig n) s := by
  refine workDone_carryOut fun r hr l => ?_
  cases hr
  exact Work.refl.step (.interval s _ (Exists.intro n rfl) (by omega) (by have := n.isLt; omega))

/-- Every command but PWR_RESET_ASSERT is a run of updates under its permissions. -/
theorem exec_work (c : Instr) (s : State) (hreset : c ≠ .pwrResetAssert) : WorkDone (permOf c s) s (exec c s) := by
  cases c with
  | requestAccept i offer => exact requestAccept_isWork i offer s
  | adRefusalAnswer i => exact adRefusalAnswer_isWork i s
  | passThrough i => exact passThrough_isWork i s
  | passThroughAck beats => exact passThroughAck_isWork beats s
  | putWindowWrite i => exact putWindowWrite_isWork i s
  | compositionWriteAck beats =>
    exact workDone_cellAck fun x r a => Work.refl.composeAck (covers_permOf _ s) (owns_permOf rfl s) x r a beats
  | closingWriteAck beats =>
    exact workDone_cellAck fun x r a => Work.refl.closeAck (covers_permOf _ s) (owns_permOf rfl s) x r a beats
  | putWindowRead i => exact putWindowRead_isWork i s
  | putWindowReadAck beats =>
    exact workDone_cellAck fun x r a => Work.refl.readAck (covers_permOf _ s) (owns_permOf rfl s) x r a beats
  | takeWindowRead i => exact takeWindowRead_isWork i s
  | takeReadAck beats =>
    exact workDone_cellAck fun x r a => Work.refl.readAck (covers_permOf _ s) (owns_permOf rfl s) x r a beats
  | closingReadAck beats =>
    exact workDone_cellAck fun x r a =>
      Work.refl.closeReadAck (covers_permOf _ s) (owns_permOf rfl s) x r a beats
  | peekRead i => exact peekRead_isWork i s
  | peekAck beats =>
    exact workDone_cellAck fun x r a => Work.refl.peekAnswer (covers_permOf _ s) (owns_permOf rfl s) x r a beats
  | abandon i => exact workDone_controlWriteIf (by simp [windowCommand]) fun _ => Or.inr ⟨i, .inr (.inl rfl)⟩
  | returnWord i => exact workDone_controlWriteIf (by simp [windowCommand]) fun _ => Or.inr ⟨i, .inr (.inr rfl)⟩
  | eventsWrite i => exact workDone_controlWriteIf (by simp [windowCommand]) fun _ => Or.inr ⟨i, .inl rfl⟩
  | controlWordWrite i => exact controlWordWrite_isWork i s
  | mergeRead i => exact mergeRead_isWork i s
  | mergeReadAck beats => exact mergeReadAck_isWork beats s
  | mergeWrite i => exact mergeWrite_isWork i s
  | mergeBeatLock i => exact mergeBeatLock_isWork i s
  | mergeBeatReadIssue i => exact mergeBeatReadIssue_isWork i s
  | mergeBeatReadAck beats => exact mergeBeatReadAck_isWork beats s
  | mergeBeatWriteAck beats => exact mergeBeatWriteAck_isWork beats s
  | lockWaiterRelease => exact workDone_next.mpr (Work.refl.traffic (.settleWaiters s))
  | memoryPresent => exact workDone_next.mpr Work.refl.present
  | discardedAck beats => exact discardedAck_isWork beats s
  | tickAdvance => exact tickAdvance_isWork s
  | heldTakeExpiry i => exact heldTakeExpiry_isWork i s
  | heldPutExpiry i => exact heldPutExpiry_isWork i s
  | heldPutGrant => exact heldPutGrant_isWork s
  | heldTakeService q => exact heldTakeService_isWork q s
  | flushCompletion q => exact flushCompletion_isWork q s
  | sysResetAssert => exact sysResetAssert_isWork s
  | sysResetRelease => exact workDone_next.mpr (Work.refl.step (.pins s s.pwrReset false))
  | resetDrainEnd => exact resetDrainEnd_isWork s
  | pwrResetAssert => exact absurd rfl hreset
  | pwrResetRelease => exact pwrResetRelease_isWork s
  | frameAbort => exact frameAbort_isWork s
  | responseCut => exact responseCut_isWork s
  | unknownCommand code => exact unknownCommand_isWork code s
  | identify => exact workDone_carryOut (by rintro r ⟨⟩ l; exact .refl)
  | status => exact workDone_carryOut (by rintro r ⟨⟩ l; exact .refl)
  | apertureRead b => exact workDone_carryOut_index fun _ _ _ => .refl
  | apertureWrite b im => exact apertureWrite_isWork b im s
  | apertureEnable b => exact workDone_carryOut_index fun k _ _ => enableAperture_work rfl k s
  | apertureDisable b => exact workDone_carryOut_index fun k _ _ => Work.refl.step (.setAperture s k _ rfl)
  | queueConfigRead b => exact workDone_carryOut_index fun _ _ _ => .refl
  | queueConfigWrite b im => exact queueConfigWrite_isWork b im s
  | queueEnable b => exact workDone_carryOut_index fun q _ l => enableQueue_work q s
  | queueDisable b => exact workDone_carryOut_index fun q _ l => Work.refl.disableQueue q
  | queueFlush b =>
    exact workDone_carryOut_index fun q _ l =>
      Work.flushQueue (p := (permOf (.queueFlush b) s).linked l) .refl (covers_permOf (.queueFlush b) s)
        (owns_permOf rfl s) q
  | queueStateRead b => exact workDone_carryOut_index fun _ _ _ => .refl
  | countersClear b => exact workDone_carryOut_index fun q _ l => Work.refl.updQueue q (f := QueueCtx.cleared) rfl (.inr rfl)
  | eventsClear b sel => exact eventsClear_isWork b sel s
  | poolConfig base cells g => exact poolConfig_isWork base cells g s
  | tickConfig n => exact tickConfig_isWork n s
  | steerOn => exact workDone_carryOut (by rintro r ⟨⟩ l; exact Work.refl.step (.steerOn s (Or.inl rfl)))
  | steerOff => exact steerOff_isWork s
  | lineConfig routing => exact lineConfig_isWork routing s
  | faultPeek => exact workDone_carryOut (by rintro r ⟨⟩ l; exact .refl)
  | faultDrop => exact workDone_carryOut (by rintro r ⟨⟩ l; exact Work.refl.step (.dropRecord s rfl))
  | summaryRead i => exact summaryRead_isWork i s
  | controlPageRead i => exact controlPageRead_isWork i s
  | frameStart => exact frameStart_isWork s
  | frameEnd => exact frameEnd_isWork s

/-- The next state that a command answers is reached by work under its permissions. -/
theorem work_of_exec {c : Instr} {s t : State} (h : exec c s = .next t) (hreset : c ≠ .pwrResetAssert) :
    Work (permOf c s) s t := by
  have hwork := exec_work c s hreset
  rwa [h, workDone_next] at hwork

end Sys2Proof.Machine
end

section
/-! PROOF. Which commands may change what: the queue of commands, the configuration, the latches, the bindings of an initiator,
the sticky flags, and the logs. Each is one case analysis over the kinds of update. -/

namespace Sys2Proof.Machine

/-! ### Settings -/

/-- The pieces of state that only commands made for them change, the Queue Contexts and the Cell Table aside. -/
def State.settings (s : State) :=
  (s.pending, s.apertures, s.arenaBase, s.poolSize, s.guardOn, s.steering, s.tickInterval, s.faultRouting, s.tickCount,
    s.latches)

/-- What the permissions leave as it is. -/
structure Kept (p : Perm) (s t : State) : Prop where
  pending : t.pending = s.pending
  config : ∀ q, ¬ p.config q → (t.queue q).config = (s.queue q).config
  apertures : ¬ p.apertures → t.apertures = s.apertures
  pool : ¬ p.pool →
    t.arenaBase = s.arenaBase ∧ t.poolSize = s.poolSize ∧ t.guardOn = s.guardOn ∧ t.cells.length = s.cells.length
  steering : ¬ p.steer → t.steering = s.steering
  interval : ¬ p.interval → t.tickInterval = s.tickInterval
  routing : ¬ p.routing → t.faultRouting = s.faultRouting
  tick : ¬ p.tick → t.tickCount = s.tickCount
  latches : ∀ i, ¬ p.latch i → t.latches[i] = s.latches[i]

theorem Kept.trans {p : Perm} {s t u : State} (h : Kept p s t) (h' : Kept p t u) : Kept p s u where
  pending := h'.pending.trans h.pending
  config q hq := (h'.config q hq).trans (h.config q hq)
  apertures hp := (h'.apertures hp).trans (h.apertures hp)
  pool hp := by
    obtain ⟨hbase, hsize, hguard, hlength⟩ := h.pool hp
    obtain ⟨hbase', hsize', hguard', hlength'⟩ := h'.pool hp
    exact ⟨hbase'.trans hbase, hsize'.trans hsize, hguard'.trans hguard, hlength'.trans hlength⟩
  steering hp := (h'.steering hp).trans (h.steering hp)
  interval hp := (h'.interval hp).trans (h.interval hp)
  routing hp := (h'.routing hp).trans (h.routing hp)
  tick hp := (h'.tick hp).trans (h.tick hp)
  latches i hi := (h'.latches i hi).trans (h.latches i hi)

/-- An update of none of the settings. -/
theorem Kept.of_settings {p : Perm} {s t : State} (h : t.settings = s.settings)
    (hqueues : ∀ q, (t.queue q).config = (s.queue q).config := by exact fun _ => rfl)
    (hcells : t.cells.length = s.cells.length := by rfl) : Kept p s t := by
  simp only [State.settings, Prod.mk.injEq] at h
  obtain ⟨hpending, hapertures, hbase, hsize, hguard, hsteering, hinterval, hrouting, htick, hlatches⟩ := h
  exact ⟨hpending, fun q _ => hqueues q, fun _ => hapertures, fun _ => ⟨hbase, hsize, hguard, hcells⟩, fun _ => hsteering,
    fun _ => hinterval, fun _ => hrouting, fun _ => htick, fun i _ => by rw [hlatches]⟩

/-- A queue written with its own configuration. -/
theorem setQueue_config {s : State} {q : QueueId} {x : QueueCtx} (h : x.config = (s.queue q).config) (p : QueueId) :
    ((s.setQueue q x).queue p).config = (s.queue p).config := by
  by_cases hpq : p = q
  · rw [hpq, State.setQueue_queue_self, h]
  · rw [s.setQueue_queue_ne hpq]

theorem Micro.kept {p : Perm} {s t : State} (h : Micro p s t) : Kept p s t := by
  cases h with
  | traffic h => rw [h.eq]; exact .of_settings rfl
  | dropRecord _ => rw [dropRecord_eq]; exact .of_settings rfl
  | setCell c x => exact .of_settings rfl (hcells := List.length_set)
  | setQueue q x hx => exact .of_settings rfl (setQueue_config hx)
  | setLatch i l hi =>
    have hlatches (j : InitId) (hj : ¬ p.latch j) : (s.setLatch i l).latches[j] = s.latches[j] := by
      rw [State.setLatch_latches, getElem_set_place, if_neg fun hji => hj (by rwa [hji])]
    exact { (Kept.of_settings rfl : Kept p s s) with latches := hlatches }
  | resetUnits hall =>
    exact { (Kept.of_settings rfl : Kept p s s) with latches := fun i hi => absurd (hall i) hi }
  | config q c n hq hrange =>
    refine { (Kept.of_settings rfl : Kept p s s) with config := fun r hr => ?_ }
    rw [s.setQueue_queue_ne fun hrq => hr (by rwa [hrq])]
  | setAperture k a hp =>
    exact { (Kept.of_settings rfl : Kept p s s) with apertures := fun hnot => absurd hp hnot }
  | buildPool base n g hp _ _ => exact { (Kept.of_settings rfl : Kept p s s) with pool := fun hnot => absurd hp hnot }
  | steerOn hp => exact { (Kept.of_settings rfl : Kept p s s) with steering := fun hnot => absurd hp hnot }
  | steerOff hp _ _ => exact { (Kept.of_settings rfl : Kept p s s) with steering := fun hnot => absurd hp hnot }
  | interval n hp _ _ => exact { (Kept.of_settings rfl : Kept p s s) with interval := fun hnot => absurd hp hnot }
  | routing l hp => exact { (Kept.of_settings rfl : Kept p s s) with routing := fun hnot => absurd hp hnot }
  | tick hp => exact { (Kept.of_settings rfl : Kept p s s) with tick := fun hnot => absurd hp hnot }
  | _ => exact .of_settings rfl

theorem Work.kept {p : Perm} {s t : State} (h : Work p s t) : Kept p s t :=
  h.keeps (P := Kept p s) (fun _ _ hm hs => hs.trans hm.kept) (.of_settings rfl)

/-- What a command leaves as it is. -/
theorem exec_kept {c : Instr} {s t : State} (h : exec c s = .next t) (hreset : c ≠ .pwrResetAssert) : Kept (permOf c s) s t :=
  (work_of_exec h hreset).kept

/-- Settles O8: none of the pieces changes without the permission of the commands that set it. -/
theorem configurationKept : Obligations.ConfigurationKept := by
  intro c s t hexec hreset
  have hkept := exec_kept hexec hreset
  refine ⟨fun hc q => hkept.config q fun ⟨b, im, h⟩ => hc b im h, fun hc => hkept.apertures fun h => ?_,
    fun hc => hkept.pool fun ⟨b, n, g, h⟩ => hc b n g h, fun hon hoff => hkept.steering fun h => h.elim hon hoff,
    fun hc => hkept.interval fun ⟨n, h⟩ => hc n h, fun hc => hkept.routing fun ⟨r, h⟩ => hc r h, hkept.tick⟩
  exact absurd (hc.symm.trans h) Bool.false_ne_true

/-- Settles O10: a latch that changed was written under the command's permission, or by PWR_RESET. -/
theorem latchesAreOwn : Obligations.LatchesAreOwn := by
  intro c s t j hexec hne
  by_cases hreset : c = .pwrResetAssert
  · exact .inr (.inl hreset)
  · by_contra hnot
    refine hne ((exec_kept hexec hreset).latches j fun hlatch => hnot ?_)
    obtain h | h | h := hlatch
    · exact .inl h
    · exact .inr (.inr (.inl h))
    · exact .inr (.inr (.inr h))

/-! ### Answers -/

/-- Settles O2: the updates of a command never touch the queue of commands, and PWR_RESET leaves it. -/
theorem everyCommandAnswers : Obligations.EveryCommandAnswers := by
  intro c s
  by_cases hreset : c = .pwrResetAssert
  · exact hreset ▸ ⟨assertPwrReset s, rfl, rfl⟩
  · obtain ⟨t, hexec, hwork⟩ := exec_work c s hreset
    exact ⟨t, hexec, hwork.kept.pending⟩

/-! ### Bindings of an initiator -/

/-- The bindings of the initiators whose bindings may not change stand. -/
structure BindingsKept (p : Perm) (s t : State) : Prop where
  put : ∀ (e : EntryId) b, s.putTable[e] = some b → ¬ p.owns b.init → t.putTable[e] = some b
  take : ∀ (e : EntryId) b, s.takeTable[e] = some b → ¬ p.owns b.init → t.takeTable[e] = some b

theorem BindingsKept.of_eq {p : Perm} {s t : State} (hput : t.putTable = s.putTable := by rfl)
    (htake : t.takeTable = s.takeTable := by rfl) : BindingsKept p s t :=
  ⟨fun _ _ hb _ => hput ▸ hb, fun _ _ hb _ => htake ▸ hb⟩

theorem Micro.bindingsKept {p : Perm} {s t : State} (h : Micro p s t) : BindingsKept p s t := by
  cases h with
  | traffic h => rw [h.eq]; exact .of_eq
  | dropRecord _ => rw [dropRecord_eq]; exact .of_eq
  | setPut e b hbind howns =>
    refine ⟨fun f d hd hnot => ?_, fun _ _ hd _ => hd⟩
    have hfe : f ≠ e := fun h => hnot (howns d (h ▸ hd))
    rw [State.setPut_putTable, getElem_set_place, if_neg hfe, hd]
  | setTake e b hbind howns =>
    refine ⟨fun _ _ hd _ => hd, fun f d hd hnot => ?_⟩
    have hfe : f ≠ e := fun h => hnot (howns d (h ▸ hd))
    rw [State.setTake_takeTable, getElem_set_place, if_neg hfe, hd]
  | voidTables q howns => exact ⟨fun _ d _ hnot => absurd (howns d.init) hnot, fun _ d _ hnot => absurd (howns d.init) hnot⟩
  | clearTables howns => exact ⟨fun _ d _ hnot => absurd (howns d.init) hnot, fun _ d _ hnot => absurd (howns d.init) hnot⟩
  | _ => exact .of_eq

theorem Work.bindingsKept {p : Perm} {s t : State} (h : Work p s t) : BindingsKept p s t :=
  h.keeps (P := BindingsKept p s)
    (fun _ _ hm hs => ⟨fun e b hb hnot => hm.bindingsKept.put e b (hs.put e b hb hnot) hnot,
      fun e b hb hnot => hm.bindingsKept.take e b (hs.take e b hb hnot) hnot⟩) .of_eq

/-- A window or control-page command may change the bindings of its own initiator alone. -/
theorem eq_of_owns {i j : InitId} {c : Instr} (hc : c ∈ windowCommand i) {s : State} (howns : (permOf c s).owns j) :
    j = i := by
  have hwindow : c ∈ windowCommand j := howns.resolve_left fun hflush => by
    simp only [windowCommand, List.mem_cons, List.not_mem_nil, or_false] at hc
    rcases hc with rfl | rfl | rfl | rfl | rfl | rfl | rfl | rfl | rfl <;> cases hflush
  simp only [windowCommand, List.mem_cons, List.not_mem_nil, or_false] at hc
  rcases hc with rfl | rfl | rfl | rfl | rfl | rfl | rfl | rfl | rfl <;> simp [windowCommand] at hwindow <;> exact hwindow.symm

/-- Settles O9, from what the permissions of the command let it do to the binding tables. -/
theorem bindingsOfOthersKept : Obligations.BindingsOfOthersKept := by
  intro i c s t hc hexec
  have hreset : c ≠ .pwrResetAssert := by rintro rfl; simp [windowCommand] at hc
  have hkept := (work_of_exec hexec hreset).bindingsKept
  exact ⟨fun e b hb hne => hkept.put e b hb fun howns => hne (eq_of_owns hc howns),
    fun e b hb hne => hkept.take e b hb fun howns => hne (eq_of_owns hc howns)⟩

/-! ### Sticky flags -/

/-- The sticky flags of the queues whose flags may not be cleared stand. -/
def StickyKept (p : Perm) (s t : State) : Prop := ∀ q : QueueId, ¬ p.clear q → s.flags[q].StickyLe t.flags[q]

theorem StickyKept.of_eq {p : Perm} {s t : State} (h : t.flags = s.flags := by rfl) : StickyKept p s t :=
  fun q _ => by rw [h]; exact .refl _

/-- What the NU derives at the end of a step touches no sticky flag. -/
theorem notify_flag (s : State) (q : QueueId) :
    s.notify.flags[q] = { s.flags[q] with ready := decide (0 < s.available q) } := by
  change (tabulate16 fun q : QueueId => ({ s.flags[q] with ready := decide (0 < s.available q) } : EventSet))[q] = _
  simp only [tabulate16, upTo16]
  fin_cases q <;> rfl

theorem Micro.stickyKept {p : Perm} {s t : State} (h : Micro p s t) : StickyKept p s t := by
  cases h with
  | traffic h => rw [h.eq]; exact .of_eq
  | dropRecord _ => rw [dropRecord_eq]; exact .of_eq
  | updFlags q f hf =>
    intro r hr
    rw [State.updFlags_flags, getElem_set_place]
    split
    next hrq => subst hrq; exact hf.resolve_left hr
    · exact .refl _
  | notify => intro q _; rw [notify_flag]; exact ⟨id, id, id, id, id⟩
  | _ => exact .of_eq

theorem Work.stickyKept {p : Perm} {s t : State} (h : Work p s t) : StickyKept p s t :=
  h.keeps (P := StickyKept p s) (fun _ _ hm hs q hq => (hs q hq).trans (hm.stickyKept q hq)) .of_eq

/-! ### EVENTS_CLEAR -/

/-- A selection byte names its flags (section 13.1). -/
theorem selection?_of_lt {sel : Byte} (h : sel.toNat < 32) : selection? sel = some (eventSetOf sel) := if_pos h

/-- EVENTS_CLEAR is answered DONE and clears the selected flags of its queue (R149). -/
theorem exec_eventsClear_ready {s : State} {b sel : Byte} {q : QueueId} (hready : s.linkReady) (hb : b.toNat = q.val)
    (hsel : sel.toNat < 32) :
    exec (.eventsClear b sel) s = .next ((s.updFlags q fun f => f.clear (eventSetOf sel)).replied 0x00#8 []) := by
  change execEventsClear b sel s = _
  refine carryOut_ready (status := .done) hready ?_
  rw [index16?_of_toNat_eq hb, selection?_of_lt hsel]

/-- The flags of a queue after EVENTS_CLEAR, READY aside. -/
theorem flags_of_eventsClear {s t : State} {b sel : Byte} {q : QueueId} (hready : s.linkReady) (hb : b.toNat = q.val)
    (hsel : sel.toNat < 32) (hexec : exec (.eventsClear b sel) s = .next t) :
    t.flags[q] = { s.flags[q].clear (eventSetOf sel) with ready := t.flags[q].ready } := by
  rw [exec_eventsClear_ready hready hb hsel] at hexec
  cases hexec
  rw [State.replied, notify_flag]
  simp only [State.updFlags_flags, getElem_set_place, if_true]

/-- Settles O12: EVENTS_CLEAR is one write of its queue's flags, and no update of another command clears a sticky flag. -/
theorem stickyFlagsOnlyCleared : Obligations.StickyFlagsOnlyCleared := by
  refine ⟨fun s b sel q hready hb hsel => exec_eventsClear_ready hready hb hsel,
    fun s b sel q hframe hpending => carryOut_busy hframe hpending,
    fun s t u b sel q hready hb hsel hexec => ⟨?_, ?_, ?_, ?_, ?_⟩, fun c s t q hexec hreset hclear hwrite => ?_⟩
  · simp [State.raiseLost, State.raiseUnderrun, State.raiseExpired, State.raiseDiverted]
  · intro hbit hu
    rw [flags_of_eventsClear (linkReady_of_raise (by simp [raises]) q hready) hb hsel hu]
    simp [EventSet.clear, eventSetOf, hbit]
  · intro hbit hu
    rw [flags_of_eventsClear (linkReady_of_raise (by simp [raises]) q hready) hb hsel hu]
    simp [EventSet.clear, eventSetOf, hbit]
  · intro hbit hu
    rw [flags_of_eventsClear (linkReady_of_raise (by simp [raises]) q hready) hb hsel hu]
    simp [EventSet.clear, eventSetOf, hbit]
  · intro hbit hu
    rw [flags_of_eventsClear (linkReady_of_raise (by simp [raises]) q hready) hb hsel hu]
    simp [EventSet.clear, eventSetOf, hbit]
  · suffices hnot : ¬ (permOf c s).clear q by
      obtain ⟨hlost, hunderrun, hwatermark, hexpired, hdiverted⟩ := (work_of_exec hexec hreset).stickyKept q hnot
      exact ⟨hlost, hunderrun, hwatermark, hexpired, hdiverted⟩
    rintro (⟨b, sel, rfl, hb⟩ | ⟨i, h⟩)
    · exact hclear b sel rfl hb
    · obtain ⟨hevents, habandon, hreturn⟩ := hwrite i
      exact h.elim hevents fun h => h.elim habandon hreturn

/-! ### The fault log and the responses -/

/-- Records are only appended, where FAULT_DROP is not permitted, and the overflow count only rises; responses are only
appended. -/
structure LogsGrow (p : Perm) (s t : State) : Prop where
  log : ¬ p.drop → s.log <+: t.log
  overflow : ¬ p.drop → s.overflow.toNat ≤ t.overflow.toNat
  responses : s.responses <+: t.responses

theorem LogsGrow.of_eq {p : Perm} {s t : State} (hlog : t.log = s.log := by rfl)
    (hoverflow : t.overflow = s.overflow := by rfl) (hresponses : t.responses = s.responses := by rfl) : LogsGrow p s t :=
  ⟨fun _ => hlog ▸ List.prefix_rfl, fun _ => hoverflow ▸ le_rfl, hresponses ▸ List.prefix_rfl⟩

theorem LogsGrow.trans {p : Perm} {s t u : State} (h : LogsGrow p s t) (h' : LogsGrow p t u) : LogsGrow p s u :=
  ⟨fun hp => (h.log hp).trans (h'.log hp), fun hp => (h.overflow hp).trans (h'.overflow hp),
    h.responses.trans h'.responses⟩

theorem appendRecord_logsGrow (p : Perm) (s : State) (r : FaultRecord) : LogsGrow p s (s.appendRecord r) := by
  unfold State.appendRecord
  split
  · exact ⟨fun _ => List.prefix_append _ _, fun _ => le_rfl, List.prefix_rfl⟩
  · exact ⟨fun _ => List.prefix_rfl, fun _ => toNat_le_satInc _, List.prefix_rfl⟩

theorem respond_responses (i : InitId) (code : RespCode) (data : List Word) (s : State) :
    (respond i code data s).responses = s.responses ++ [{ init := i, code := code, data := data }] := by
  obtain ⟨h, -, -⟩ := respond_answered i code data s
  exact h

theorem Traffic.logsGrow {p : Perm} {s t : State} (h : Traffic p s t) : LogsGrow p s t := by
  cases h with
  | accept i => rw [acceptOffer_eq]; exact .of_eq
  | answer i code data =>
    have hresponses : s.responses <+: (respond i code data s).responses :=
      respond_responses i code data s ▸ List.prefix_append _ _
    rw [respond_eq]
    exact { (LogsGrow.of_eq : LogsGrow p s s) with responses := hresponses }
  | record r => exact appendRecord_logsGrow p s r
  | park => rw [park_eq]; exact .of_eq
  | issue r => rw [issue_eq]; exact .of_eq
  | present => rw [present_eq]; exact .of_eq
  | retireHead => rw [retireHead_eq]; exact .of_eq
  | handOver r => rw [handOver_eq]; exact .of_eq
  | settleWaiters => rw [settleWaiters_eq]; exact .of_eq
  | releaseLock i => rw [releaseLock_eq]; exact .of_eq
  | _ => exact .of_eq

theorem Micro.logsGrow {p : Perm} {s t : State} (h : Micro p s t) : LogsGrow p s t := by
  cases h with
  | traffic h => exact h.logsGrow
  | dropRecord hp =>
    rw [dropRecord_eq]
    exact ⟨fun hnot => absurd hp hnot, fun hnot => absurd hp hnot, List.prefix_rfl⟩
  | _ => exact .of_eq

theorem Work.logsGrow {p : Perm} {s t : State} (h : Work p s t) : LogsGrow p s t :=
  h.keeps (P := LogsGrow p s) (fun _ _ hm hs => hs.trans hm.logsGrow) .of_eq

/-- The log of responses grows with every command, PWR_RESET included. -/
theorem responses_prefix_of_exec {c : Instr} {s t : State} (h : exec c s = .next t) : s.responses <+: t.responses := by
  by_cases hreset : c = .pwrResetAssert
  · subst hreset
    cases h
    exact List.prefix_rfl
  · exact (work_of_exec h hreset).logsGrow.responses

/-- A count is one more, or stops at its highest value (R17). -/
theorem toNat_satInc {w : Nat} (x : BitVec w) : (satInc x).toNat = min (x.toNat + 1) (2 ^ w - 1) := by
  have hlt := x.isLt
  unfold satInc
  split
  next hmax =>
    subst hmax
    rw [BitVec.toNat_allOnes]
    omega
  next hmax =>
    have hne : x.toNat ≠ 2 ^ w - 1 := fun h => hmax (BitVec.eq_of_toNat_eq (by rw [h, BitVec.toNat_allOnes]))
    rw [BitVec.toNat_add, BitVec.toNat_ofNat, Nat.add_mod_mod, Nat.mod_eq_of_lt (by omega)]
    omega

/-- FAULT_DROP is answered DONE with the oldest record dropped (R155). -/
theorem exec_faultDrop_ready {s : State} (hready : s.linkReady) :
    exec .faultDrop s = .next ((dropRecord s).replied 0x00#8 []) :=
  carryOut_ready (status := .done) hready rfl

/-! ### Words made of bits and fields -/

theorem getLsbD_bitAt (b : Bool) {place n : Nat} (hn : n < 64) : (bitAt b place).getLsbD n = (b && decide (n = place)) := by
  unfold bitAt
  cases b
  · simp
  · simp only [if_true, BitVec.getLsbD_shiftLeft, BitVec.getLsbD_one, hn, decide_true, Bool.true_and]
    by_cases hlt : n < place
    · simp [hlt, Nat.ne_of_lt hlt]
    · by_cases heq : n = place
      · simp [heq]
      · simp [heq]
        omega

theorem getLsbD_fieldAt (v : Nat) {place n : Nat} (hn : n < 64) :
    (fieldAt v place).getLsbD n = (decide (place ≤ n) && v.testBit (n - place)) := by
  simp only [fieldAt, BitVec.getLsbD_shiftLeft, BitVec.getLsbD_ofNat, hn, decide_true, Bool.true_and]
  by_cases hle : place ≤ n
  · have hsub : n - place < 64 := by omega
    simp [hle, hsub]
  · have hlt : n < place := by omega
    simp [hle, hlt]

/-- A fold that sets the bits of the queues of a list sets those bits. -/
theorem getLsbD_foldl_bitAt (l : List QueueId) (w : Word) {n : Nat} (hn : n < 64) :
    (l.foldl (fun w q => w ||| bitAt true q.val) w).getLsbD n = (w.getLsbD n || l.any fun q => decide (n = q.val)) := by
  induction l generalizing w with
  | nil => simp
  | cons q l ih => rw [List.foldl_cons, ih, BitVec.getLsbD_or, getLsbD_bitAt true hn, List.any_cons, Bool.true_and, Bool.or_assoc]

/-- The field and the none flag of a summary word: the lowest READY queue, or bit 24 (section 13.5). -/
def lowestReady : List QueueId → Word
  | q :: _ => fieldAt q.val 16
  | [] => bitAt true 24

/-- The bits of a summary word. -/
theorem getLsbD_summaryWord (s : State) (reported : BitVec 16) {n : Nat} (hn : n < 64) :
    (s.summaryWord reported).getLsbD n =
      (((s.readySet reported).any (fun q => decide (n = q.val)) || (lowestReady (s.readySet reported)).getLsbD n) ||
        (!s.log.isEmpty && decide (n = 32))) := by
  unfold State.summaryWord
  generalize s.readySet reported = ready
  dsimp only
  rw [BitVec.getLsbD_or, BitVec.getLsbD_or, getLsbD_foldl_bitAt _ _ hn, getLsbD_bitAt _ hn, BitVec.getLsbD_zero,
    Bool.false_or]
  cases ready with
  | nil => simp only [lowestReady]
  | cons q l => simp only [lowestReady]

/-- The queue number of a summary word stands in bits 16 to 19, the none flag in bit 24. -/
theorem getLsbD_lowestReady (l : List QueueId) {n : Nat} (hn : n < 64) :
    (lowestReady l).getLsbD n = match l with
      | [] => decide (n = 24)
      | q :: _ => decide (16 ≤ n) && q.val.testBit (n - 16) := by
  cases l with
  | nil => simp [lowestReady, getLsbD_bitAt true hn]
  | cons q l => simp [lowestReady, getLsbD_fieldAt _ hn]

/-- A queue number has no bit from 4 on. -/
theorem testBit_queue (q : QueueId) {n : Nat} (hn : 4 ≤ n) : q.val.testBit n = false :=
  Nat.testBit_lt_two_pow (lt_of_lt_of_le q.isLt (Nat.pow_le_pow_right (n := 2) (by decide) hn))

/-- The READY set and the queue number of a summary word stand below bit 32 (section 13.5). -/
theorem summaryWord_fault_bit (s : State) (reported : BitVec 16) :
    (s.summaryWord reported).getLsbD 32 = !s.log.isEmpty := by
  have hset : (s.readySet reported).any (fun q => decide (32 = q.val)) = false :=
    List.any_eq_false.mpr fun q _ => by have := q.isLt; simp; omega
  have hlow : (lowestReady (s.readySet reported)).getLsbD 32 = false := by
    rw [getLsbD_lowestReady _ (by decide)]
    split
    · rfl
    · simp [testBit_queue]
  rw [getLsbD_summaryWord s reported (by decide), hset, hlow]
  simp

/-- Settles O13: FAULT_DROP is the drop of the oldest record, an appended record or its count is all that another update does
to the log, and a response only joins the responses. -/
theorem logAndResponsesGrow : Obligations.LogAndResponsesGrow := by
  refine ⟨fun s r => ⟨fun h => if_pos h, fun h => if_neg (Nat.not_lt.mpr h)⟩, fun _ => toNat_satInc,
    fun s hready hlog => ?_, fun s r hready hlog => ?_, fun s r r' rest hready hlog => ?_,
    fun s q hframe hpending => carryOut_busy hframe hpending, fun s reported hlog => ?_,
    fun c s t hexec hdrop hreset => ?_, fun c s t => responses_prefix_of_exec⟩
  · rw [exec_faultDrop_ready hready]
    simp [dropRecord, hlog]
  · rw [exec_faultDrop_ready hready]
    simp [dropRecord, hlog]
  · rw [exec_faultDrop_ready hready]
    simp [dropRecord, hlog]
  · rw [summaryWord_fault_bit, hlog]
    rfl
  · have hgrow := (work_of_exec hexec hreset).logsGrow
    exact ⟨hgrow.log hdrop, hgrow.overflow hdrop⟩

end Sys2Proof.Machine
end

section
/-! PROOF. Invariants that every update keeps: the capacities and ranges, the order of locks and presented requests, and the
waiting accesses that fail their test. -/

namespace Sys2Proof.Machine

/-! ### From updates to steps -/

/-- What every update and PWR_RESET keep, whatever the queue of commands holds, every step keeps. -/
theorem step_keeps {P : State → Prop} (hpending : ∀ s l, P s → P { s with pending := l })
    (hmicro : ∀ p s t, Micro p s t → P s → P t) (hreset : ∀ s, P s → P (assertPwrReset s)) {s t : State}
    (h : step s = .next t) (hs : P s) : P t := by
  unfold step at h
  split at h
  · have hwork : WorkDone (permOf .tickAdvance s) s (partClock s) := by
      unfold partClock
      repeat' split
      · exact workDone_next.mpr .refl
      next hlt => exact workDone_next.mpr (Work.refl.step (.elapse s _ (.inl hlt)))
      · exact workDone_finish (Work.refl.advanceTick (covers_permOf _ s) rfl)
    rw [h, workDone_next] at hwork
    exact hwork.keeps (hmicro _) hs
  next c rest _ =>
    by_cases hc : c = .pwrResetAssert
    · subst hc
      cases h
      exact hreset _ (hpending s rest hs)
    · exact (work_of_exec h hc).keeps (hmicro _) (hpending s rest hs)

/-! ### Lists that the operations of the memory port and the Merge Unit move along -/

/-- The lock entries and waiters that hold a merge beat or another access back, counted by their effect: the word of a passing
beat is apart from every lock (R137, R138). -/
theorem mayLock_eq_true {locks : List Lock} {earlier : List Waiter} {word : Addr} (h : mayLock locks earlier word = true) :
    locks.length < 4 ∧ ∀ l ∈ locks, shareWord word 1 l.word 1 = false := by
  simp only [mayLock, blocked, Bool.and_eq_true, decide_eq_true_eq, Bool.not_eq_true', Bool.or_eq_false_iff,
    List.any_eq_false, Bool.not_eq_true] at h
  obtain ⟨hlength, hlocks, -⟩ := h
  exact ⟨hlength, hlocks⟩

/-- What a presentation may do to the outstanding list (R163, R164). -/
theorem present_outstanding (s : State) :
    (present s).outstanding = s.outstanding ∨
      ∃ r, s.outstanding.length < 16 ∧ (∀ e ∈ s.outstanding, r.conflicts e = false) ∧
        (present s).outstanding = s.outstanding ++ [r] := by
  unfold present
  split
  next hlt =>
    split
    next r rest hpick =>
      obtain ⟨front, back, -, -, hfree⟩ := pickAllowed_eq_some hpick
      exact .inr ⟨r, hlt, fun e he => hfree e (List.mem_append_left _ he), rfl⟩
    · exact .inl rfl
  · exact .inl rfl

/-- What the settling of the waiting list keeps: whatever issuing a request and taking a passing lock keep, and the replacement
of the waiting list (R139). -/
theorem settleFrom_keeps {P : State → Prop} (hissue : ∀ s r, P s → P (issue r s))
    (hlock : ∀ s i word, s.locks.length < 4 → (∀ l ∈ s.locks, shareWord word 1 l.word 1 = false) → P s →
      P (takeLock i word s))
    (hwaiting : ∀ s ws, P s → P { s with waiting := ws }) (kept ws : List Waiter) {s : State} (hs : P s) :
    P (settleFrom kept ws s) := by
  induction ws generalizing kept s with
  | nil => exact hwaiting s kept hs
  | cons w ws ih =>
    cases w with
    | access r =>
      unfold settleFrom
      split
      · exact ih _ hs
      · exact ih _ (hissue s r hs)
    | beat i word =>
      unfold settleFrom
      split
      next hmay =>
        obtain ⟨hlength, hapart⟩ := mayLock_eq_true hmay
        exact ih _ (hlock s i word hlength hapart hs)
      · exact ih _ hs

/-! ### Capacities -/

/-- The fields of `Bounded`, the configurations aside. -/
def State.bounds (s : State) :=
  (s.poolSize, s.arenaBase, s.channels, s.outstanding, s.log, s.locks, s.tickInterval, s.tickElapsed)

/-- An update of none of the bounded fields. -/
theorem Bounded.of_bounds {s t : State} (h : Bounded s) (hbounds : t.bounds = s.bounds)
    (hqueues : ∀ q, (t.queue q).config = (s.queue q).config := by exact fun _ => rfl) : Bounded t := by
  simp only [State.bounds, Prod.mk.injEq] at hbounds
  obtain ⟨hpool, hbase, hchannels, houtstanding, hlog, hlocks, hinterval, helapsed⟩ := hbounds
  unfold Bounded at h ⊢
  simpa only [hqueues, hpool, hbase, hchannels, houtstanding, hlog, hlocks, hinterval, helapsed] using h

/-- The part of `Bounded` that traffic may touch: channels, outstanding list, log and locks. -/
structure Roomy (s : State) : Prop where
  channels : ∀ i : InitId, s.channels[i].length ≤ 4
  outstanding : s.outstanding.length ≤ 16
  log : s.log.length ≤ 8
  locks : s.locks.length ≤ 4

theorem acceptOffer_channels_length {s : State} (h : ∀ j : InitId, s.channels[j].length ≤ 4) (i j : InitId) :
    (acceptOffer i s).channels[j].length ≤ 4 := by
  unfold acceptOffer
  split
  next hroom =>
    have hlt : s.channels[i].length < 4 := by
      simp only [Bool.and_eq_true, decide_eq_true_eq] at hroom
      exact hroom.2
    split
    · exact h j
    · rw [getElem_set_place]
      split
      · rw [List.length_append]
        exact hlt
      · exact h j
  · exact h j

theorem respond_channels_length {s : State} (h : ∀ j : InitId, s.channels[j].length ≤ 4) (i : InitId) (code : RespCode)
    (data : List Word) (j : InitId) : (respond i code data s).channels[j].length ≤ 4 := by
  refine acceptOffer_channels_length (fun k => ?_) i j
  simp only [getElem_set_place]
  split
  · have := h i
    rw [List.length_tail]
    omega
  · exact h k

theorem present_outstanding_length {s : State} (h : s.outstanding.length ≤ 16) : (present s).outstanding.length ≤ 16 := by
  obtain heq | ⟨r, hlt, -, heq⟩ := present_outstanding s <;> rw [heq]
  · exact h
  · rw [List.length_append]
    exact hlt

theorem appendRecord_log_length {s : State} (h : s.log.length ≤ 8) (r : FaultRecord) : (s.appendRecord r).log.length ≤ 8 := by
  unfold State.appendRecord
  split
  next hlt =>
    rw [List.length_append]
    exact hlt
  · exact h

theorem Roomy.issue {s : State} (h : Roomy s) (r : MemReq) : Roomy (issue r s) := by
  have houtstanding := present_outstanding_length (s := { s with issueQ := s.issueQ ++ [r] }) h.outstanding
  rw [issue_eq]
  exact { h with outstanding := houtstanding }

theorem Roomy.takeLock {s : State} (h : Roomy s) (i : InitId) (word : Addr) (hlength : s.locks.length < 4) :
    Roomy (takeLock i word s) :=
  { h with locks := by simpa [Machine.takeLock] using hlength }

theorem Roomy.settleFrom {s : State} (h : Roomy s) (kept ws : List Waiter) : Roomy (settleFrom kept ws s) :=
  settleFrom_keeps (P := Roomy) (fun _ r hs => hs.issue r) (fun _ i word hlength _ hs => hs.takeLock i word hlength)
    (fun _ _ hs => { hs with }) kept ws h

theorem Traffic.roomy {p : Perm} {s t : State} (h : Traffic p s t) (hs : Roomy s) : Roomy t := by
  cases h with
  | accept i =>
    have hchannels := acceptOffer_channels_length hs.channels i
    rw [acceptOffer_eq]
    exact { hs with channels := hchannels }
  | answer i code data =>
    have hchannels := respond_channels_length hs.channels i code data
    rw [respond_eq]
    exact { hs with channels := hchannels }
  | record r =>
    have hlog := appendRecord_log_length hs.log r
    rw [State.appendRecord_eq]
    exact { hs with log := hlog }
  | park => rw [park_eq]; exact { hs with }
  | issue r => exact hs.issue r
  | present =>
    have houtstanding := present_outstanding_length hs.outstanding
    rw [present_eq]
    exact { hs with outstanding := houtstanding }
  | retireHead =>
    have htail : s.outstanding.tail.length ≤ 16 := by rw [List.length_tail]; have := hs.outstanding; omega
    have houtstanding := present_outstanding_length (s := { s with outstanding := s.outstanding.tail }) htail
    rw [retireHead_eq]
    exact { hs with outstanding := houtstanding }
  | handOver r =>
    unfold Machine.handOver
    split
    · exact { hs with }
    · exact hs.issue r
  | takeLock i word hmay => exact hs.takeLock i word (mayLock_eq_true hmay).1
  | settleWaiters => exact hs.settleFrom [] s.waiting
  | releaseLock i =>
    have hlocks : (s.locks.filter fun l => decide (l.init ≠ i)).length ≤ 4 := (List.length_filter_le _ _).trans hs.locks
    exact Roomy.settleFrom (s := { s with locks := s.locks.filter fun l => decide (l.init ≠ i) })
      { hs with locks := hlocks } [] s.waiting
  | lockWriting i => exact { hs with locks := by simpa [Machine.lockWriting] using hs.locks }
  | _ => exact { hs with }

theorem Bounded.roomy {s : State} (h : Bounded s) : Roomy s := by
  obtain ⟨-, -, -, hchannels, houtstanding, hlog, hlocks, -⟩ := h
  exact ⟨hchannels, houtstanding, hlog, hlocks⟩

theorem Micro.bounded {p : Perm} {s t : State} (h : Micro p s t) (hs : Bounded s) : Bounded t := by
  obtain ⟨hconfig, hpool, hbase, hchannels, houtstanding, hlog, hlocks, hmin, hmax, helapsed⟩ := id hs
  cases h with
  | traffic h =>
    obtain ⟨hchannels, houtstanding, hlog, hlocks⟩ := h.roomy hs.roomy
    rw [h.eq]
    exact ⟨hconfig, hpool, hbase, hchannels, houtstanding, hlog, hlocks, hmin, hmax, helapsed⟩
  | dropRecord _ =>
    have hlog' : (Machine.dropRecord s).log.length ≤ 8 := by
      unfold Machine.dropRecord
      split
      · exact hlog
      next r rest heq =>
        have : rest.length ≤ 8 := by rw [heq, List.length_cons] at hlog; omega
        split <;> exact this
    rw [dropRecord_eq]
    exact ⟨hconfig, hpool, hbase, hchannels, houtstanding, hlog', hlocks, hmin, hmax, helapsed⟩
  | setQueue q x hx => exact hs.of_bounds rfl (setQueue_config hx)
  | elapse n hn => exact ⟨hconfig, hpool, hbase, hchannels, houtstanding, hlog, hlocks, hmin, hmax, by dsimp only; omega⟩
  | tick _ => exact ⟨hconfig, hpool, hbase, hchannels, houtstanding, hlog, hlocks, hmin, hmax, by dsimp only; omega⟩
  | resetUnits _ =>
    exact ⟨hconfig, hpool, hbase, by simp [Machine.resetUnits], by simpa [Machine.resetUnits] using houtstanding, hlog,
      by simp [Machine.resetUnits], hmin, hmax, helapsed⟩
  | config q c n _ hrange =>
    refine ⟨fun r => ?_, hpool, hbase, hchannels, houtstanding, hlog, hlocks, hmin, hmax, helapsed⟩
    by_cases hrq : r = q
    · rw [hrq, State.setQueue_queue_self]
      exact hrange
    · rw [s.setQueue_queue_ne hrq]
      exact hconfig r
  | buildPool base n g _ hbase' hn =>
    exact ⟨hconfig, hn, hbase', hchannels, houtstanding, hlog, hlocks, hmin, hmax, helapsed⟩
  | interval n _ hmin' hmax' =>
    exact ⟨hconfig, hpool, hbase, hchannels, houtstanding, hlog, hlocks, hmin', hmax', hmin'⟩
  | _ => exact hs.of_bounds rfl

theorem assertPwrReset_bounded {s : State} (h : Bounded s) : Bounded (assertPwrReset s) := by
  have houtstanding := h.roomy.outstanding
  refine ⟨fun q => ?_, .inl rfl, rfl, by simp [assertPwrReset, State.reset], by simpa [assertPwrReset] using houtstanding,
    by simp [assertPwrReset, State.reset], by simp [assertPwrReset, State.reset], by simp [assertPwrReset, State.reset],
    by simp [assertPwrReset, State.reset], by simp [assertPwrReset, State.reset]⟩
  have hqueue : (assertPwrReset s).queue q = QueueCtx.initial := by simp [State.queue, assertPwrReset, State.reset]
  rw [hqueue]
  decide

/-! ### Locks and presented requests -/

/-- A new lock on a word apart from the others keeps them apart. -/
theorem Apart.takeLock {s : State} (h : Apart s) (i : InitId) (word : Addr)
    (hapart : ∀ l ∈ s.locks, shareWord word 1 l.word 1 = false) : Apart (takeLock i word s) := by
  obtain ⟨hlocks, houtstanding⟩ := h
  refine ⟨List.pairwise_append.mpr ⟨hlocks, List.pairwise_singleton _ _, fun l hl m hm => ?_⟩, houtstanding⟩
  rw [List.mem_singleton.mp hm]
  exact hapart l hl

theorem present_pairwise {s : State} (h : s.outstanding.Pairwise fun e r => r.conflicts e = false) :
    (present s).outstanding.Pairwise fun e r => r.conflicts e = false := by
  obtain heq | ⟨r, -, hfree, heq⟩ := present_outstanding s <;> rw [heq]
  · exact h
  · refine List.pairwise_append.mpr ⟨h, List.pairwise_singleton _ _, fun e he m hm => ?_⟩
    rw [List.mem_singleton.mp hm]
    exact hfree e he

theorem Apart.issue {s : State} (h : Apart s) (r : MemReq) : Apart (issue r s) := by
  obtain ⟨hlocks, houtstanding⟩ := h
  have houtstanding' := present_pairwise (s := { s with issueQ := s.issueQ ++ [r] }) houtstanding
  rw [issue_eq]
  exact ⟨hlocks, houtstanding'⟩

theorem Apart.settleFrom {s : State} (h : Apart s) (kept ws : List Waiter) : Apart (settleFrom kept ws s) :=
  settleFrom_keeps (P := Apart) (fun _ r hs => hs.issue r) (fun _ i word _ hapart hs => hs.takeLock i word hapart)
    (fun _ _ hs => hs) kept ws h

/-- A request has the address and the body of another. -/
theorem conflicts_congr {r r' e e' : MemReq} (haddr : r'.addr = r.addr) (hbody : r'.body = r.body)
    (haddr' : e'.addr = e.addr) (hbody' : e'.body = e.body) : r'.conflicts e' = r.conflicts e := by
  simp only [MemReq.conflicts, MemReq.count, MemReq.isWrite, haddr, hbody, haddr', hbody']

/-- A change of nothing but the fates keeps presented requests apart. -/
theorem pairwise_conflicts_map {l : List MemReq} {f : MemReq → MemReq} (haddr : ∀ r, (f r).addr = r.addr)
    (hbody : ∀ r, (f r).body = r.body) (h : l.Pairwise fun e r => r.conflicts e = false) :
    (l.map f).Pairwise fun e r => r.conflicts e = false := by
  refine List.pairwise_map.mpr (h.imp fun {e r} hfree => ?_)
  rw [conflicts_congr (haddr r) (hbody r) (haddr e) (hbody e), hfree]

theorem discard_addr (r : MemReq) : (discard r).addr = r.addr := by unfold discard; split <;> rfl
theorem discard_body (r : MemReq) : (discard r).body = r.body := by unfold discard; split <;> rfl

theorem Traffic.apart {p : Perm} {s t : State} (h : Traffic p s t) (hs : Apart s) : Apart t := by
  obtain ⟨hlocks, houtstanding⟩ := id hs
  cases h with
  | accept i => rw [acceptOffer_eq]; exact hs
  | answer i code data => rw [respond_eq]; exact hs
  | record r => rw [State.appendRecord_eq]; exact hs
  | park => rw [park_eq]; exact hs
  | issue r => exact hs.issue r
  | present =>
    have houtstanding' := present_pairwise houtstanding
    rw [present_eq]
    exact ⟨hlocks, houtstanding'⟩
  | retireHead =>
    have houtstanding' := present_pairwise (s := { s with outstanding := s.outstanding.tail })
      (houtstanding.sublist (List.tail_sublist _))
    rw [retireHead_eq]
    exact ⟨hlocks, houtstanding'⟩
  | handOver r =>
    unfold Machine.handOver
    split
    · exact hs
    · exact hs.issue r
  | takeLock i word hmay => exact hs.takeLock i word (mayLock_eq_true hmay).2
  | settleWaiters => exact hs.settleFrom [] s.waiting
  | releaseLock i =>
    exact Apart.settleFrom (s := { s with locks := s.locks.filter fun l => decide (l.init ≠ i) })
      ⟨hlocks.sublist List.filter_sublist, houtstanding⟩ [] s.waiting
  | lockWriting i =>
    refine ⟨List.pairwise_map.mpr (hlocks.imp fun {l m} hlm => ?_), houtstanding⟩
    have hword (n : Lock) : (if n.init = i then { n with stage := .writing } else n : Lock).word = n.word := by
      split <;> rfl
    rw [hword, hword, hlm]
  | _ => exact hs

theorem Micro.apart {p : Perm} {s t : State} (h : Micro p s t) (hs : Apart s) : Apart t := by
  cases h with
  | traffic h => exact h.apart hs
  | dropRecord _ => rw [dropRecord_eq]; exact hs
  | resetUnits _ => exact ⟨.nil, pairwise_conflicts_map discard_addr discard_body hs.2⟩
  | _ => exact hs

/-! ### Waiting accesses -/

/-- A waiting access fails its test against the locks and the waiters before it (R137, R138). -/
def Waiter.Fails (locks : List Lock) (before : List Waiter) : Waiter → Prop
  | .access r => blocked locks before r.addr r.count = true
  | .beat _ word => mayLock locks before word = false

/-- Every waiter of a list fails its test. -/
def AllFail (locks : List Lock) (ws : List Waiter) : Prop :=
  ∀ before w after, ws = before ++ w :: after → w.Fails locks before

theorem settled_iff (s : State) : Settled s ↔ AllFail s.locks s.waiting := by
  refine forall₄_congr fun before w after _ => ?_
  cases w <;> rfl

theorem AllFail.nil (locks : List Lock) : AllFail locks [] := fun before w after h => by simp at h

theorem AllFail.concat {locks : List Lock} {ws : List Waiter} (h : AllFail locks ws) {w : Waiter}
    (hw : w.Fails locks ws) : AllFail locks (ws ++ [w]) := by
  intro before x after heq
  obtain rfl | ⟨after', y, rfl⟩ := List.eq_nil_or_concat after
  · obtain ⟨rfl, hxw⟩ := List.append_inj' heq rfl
    cases hxw
    exact hw
  · rw [List.concat_eq_append, ← List.cons_append, ← List.append_assoc] at heq
    obtain ⟨rfl, -⟩ := List.append_inj' heq rfl
    exact h before x after' rfl

/-- A waiter that fails its test fails it against more locks too. -/
theorem Waiter.Fails.mono {locks more : List Lock} (hsub : ∀ l ∈ locks, l ∈ more) (hlength : locks.length ≤ more.length)
    {before : List Waiter} {w : Waiter} (h : w.Fails locks before) : w.Fails more before := by
  have hblocked {a : Addr} {n : Nat} (hb : blocked locks before a n = true) : blocked more before a n = true := by
    simp only [blocked, Bool.or_eq_true, List.any_eq_true] at hb ⊢
    exact hb.imp_left fun ⟨l, hl, hshare⟩ => ⟨l, hsub l hl, hshare⟩
  cases w with
  | access r => exact hblocked h
  | beat i word =>
    simp only [Waiter.Fails, mayLock, Bool.and_eq_false_iff, decide_eq_false_iff_not, Bool.not_eq_false'] at h ⊢
    exact h.imp (fun hn => by omega) hblocked

theorem AllFail.mono {locks more : List Lock} (hsub : ∀ l ∈ locks, l ∈ more) (hlength : locks.length ≤ more.length)
    {ws : List Waiter} (h : AllFail locks ws) : AllFail more ws :=
  fun before w after heq => (h before w after heq).mono hsub hlength

/-- The test of a waiter looks at the words of the locks alone. -/
theorem AllFail.of_words {locks other : List Lock} (hword : other.map Lock.word = locks.map Lock.word) {ws : List Waiter}
    (h : AllFail locks ws) : AllFail other ws := by
  have hany (f : Addr → Bool) : other.any (fun l => f l.word) = locks.any (fun l => f l.word) := by
    have := congrArg (List.any · f) hword
    rw [List.any_map, List.any_map] at this
    exact this
  have hlength : other.length = locks.length := by simpa using congrArg List.length hword
  intro before w after heq
  have := h before w after heq
  cases w with
  | access r => simpa only [Waiter.Fails, blocked, hany fun x => shareWord r.addr r.count x 1] using this
  | beat i word => simpa only [Waiter.Fails, mayLock, blocked, hlength, hany fun x => shareWord word 1 x 1] using this

/-- After the settling of the waiting list every waiter that is left fails its test (R139). -/
theorem settleFrom_allFail (kept ws : List Waiter) {s : State} (h : AllFail s.locks kept) :
    AllFail (settleFrom kept ws s).locks (settleFrom kept ws s).waiting := by
  induction ws generalizing kept s with
  | nil => exact h
  | cons w ws ih =>
    cases w with
    | access r =>
      unfold settleFrom
      split
      next hblocked => exact ih _ (h.concat hblocked)
      · exact ih _ (by rw [issue_eq]; exact h)
    | beat i word =>
      unfold settleFrom
      split
      · exact ih _ (h.mono (fun l hl => List.mem_append_left _ hl) (by simp))
      next hmay => exact ih _ (h.concat (Bool.eq_false_iff.mpr hmay))

theorem Traffic.settled {p : Perm} {s t : State} (h : Traffic p s t) (hs : Settled s) : Settled t := by
  rw [settled_iff] at hs ⊢
  cases h with
  | accept i => rw [acceptOffer_eq]; exact hs
  | answer i code data => rw [respond_eq]; exact hs
  | record r => rw [State.appendRecord_eq]; exact hs
  | park => rw [park_eq]; exact hs
  | issue r => rw [issue_eq]; exact hs
  | present => rw [present_eq]; exact hs
  | retireHead => rw [retireHead_eq]; exact hs
  | handOver r =>
    unfold Machine.handOver
    split
    next hblocked => exact hs.concat hblocked
    · rw [issue_eq]; exact hs
  | takeLock i word hmay => exact hs.mono (fun l hl => List.mem_append_left _ hl) (by simp)
  | waitBeat i word hmay => exact hs.concat hmay
  | settleWaiters => exact settleFrom_allFail [] s.waiting (.nil _)
  | releaseLock i => exact settleFrom_allFail [] _ (.nil _)
  | lockWriting i =>
    refine hs.of_words ?_
    simp only [Machine.lockWriting, List.map_map]
    exact List.map_congr_left fun l _ => by dsimp only [Function.comp]; split <;> rfl
  | _ => exact hs

theorem Micro.settled {p : Perm} {s t : State} (h : Micro p s t) (hs : Settled s) : Settled t := by
  cases h with
  | traffic h => exact h.settled hs
  | dropRecord _ => rw [dropRecord_eq]; exact hs
  | resetUnits _ => exact (settled_iff _).mpr (.nil _)
  | _ => exact hs

/-- Settles O6: every update and PWR_RESET keep each of the three. -/
theorem capacitiesAndOrderKept : Obligations.CapacitiesAndOrderKept := by
  unfold Obligations.CapacitiesAndOrderKept
  exact fun s t h => ⟨step_keeps (P := Bounded) (fun _ _ h => h) (fun _ _ _ hm => hm.bounded)
      (fun _ h => assertPwrReset_bounded h) h,
    step_keeps (P := Apart) (fun _ _ h => h) (fun _ _ _ hm => hm.apart)
      (fun _ h => ⟨.nil, pairwise_conflicts_map (fun _ => rfl) (fun _ => rfl) h.2⟩) h,
    step_keeps (P := Settled) (fun _ _ h => h) (fun _ _ _ hm => hm.settled) (fun _ _ => (settled_iff _).mpr (.nil _)) h⟩

end Sys2Proof.Machine
end

section
/-! PROOF. Steering OFF and an idle part, FLUSHING and the pending command, deadlines and frames: what every step keeps of
them. -/

namespace Sys2Proof.Machine

/-! ### What a step is -/

/-- What a step may be, on the state with what is left of the queue of commands. -/
inductive StepKind (s t : State) : Prop
  | command (c : Instr) (htick : c ≠ .tickAdvance) (hreset : c ≠ .pwrResetAssert) (h : exec c s = .next t)
  | idle (h : t = s)
  | clock (n : Nat) (hn : n < s.tickInterval) (h : t = { s with tickElapsed := n })
  | tick (h : t = (advanceTick s).notify)
  | reset (h : t = assertPwrReset s)

theorem stepKind_of_step {s t : State} (h : step s = .next t) : ∃ l, StepKind { s with pending := l } t := by
  unfold step at h
  split at h
  · refine ⟨s.pending, ?_⟩
    change StepKind s t
    unfold partClock at h
    repeat' split at h
    · cases h; exact .idle rfl
    next hlt => cases h; exact .clock _ hlt rfl
    · cases h; exact .tick rfl
  next c rest _ =>
    refine ⟨rest, ?_⟩
    by_cases hreset : c = .pwrResetAssert
    · subst hreset
      cases h
      exact .reset rfl
    · by_cases htick : c = .tickAdvance
      · subst htick
        change execTickAdvance _ = _ at h
        unfold execTickAdvance at h
        split at h <;> cases h
        · exact .idle rfl
        · exact .tick rfl
      · exact .command c htick hreset h

/-- A step that is not PWR_RESET is work under the permissions of some command. -/
theorem StepKind.work {s t : State} (h : StepKind s t) (hreset : t ≠ assertPwrReset s) :
    ∃ c, Work (permOf c s) s t := by
  cases h with
  | command c htick hc h => exact ⟨c, work_of_exec h hc⟩
  | idle h => exact ⟨.memoryPresent, .of_eq h⟩
  | clock n hn h => exact ⟨.memoryPresent, h ▸ Work.refl.step (.elapse s n (.inl hn))⟩
  | tick h => exact ⟨.tickAdvance, h ▸ (Work.refl.advanceTick (covers_permOf _ s) rfl).notify⟩
  | reset h => exact absurd h hreset

/-! ### Steering OFF -/

/-- The part is idle while steering is OFF, and no command that may bind is carried out then (R114). -/
def Idle (p : Perm) (s : State) : Prop := OffIsIdle s ∧ (s.steering = .off → ¬ p.bind)

/-- With steering OFF an accepted request is not steered (R114). -/
theorem acceptOffer_unsteered {s : State} (hoff : s.steering = .off)
    (h : ∀ i : InitId, ∀ x ∈ s.channels[i], x.decoded.steered = false) (i j : InitId) :
    ∀ x ∈ (acceptOffer i s).channels[j], x.decoded.steered = false := by
  unfold acceptOffer
  repeat' split
  · exact h j
  next r rest _ =>
    have hnew : decodeRequest s i r = .passThrough := by rw [decodeRequest, hoff]
    rw [getElem_set_place]
    split
    · intro x hx
      obtain hx | hx := List.mem_append.mp hx
      · exact h i x hx
      · rw [List.mem_singleton.mp hx, hnew]
        rfl
    · exact h j
  · exact h j

theorem respond_unsteered {s : State} (hoff : s.steering = .off)
    (h : ∀ i : InitId, ∀ x ∈ s.channels[i], x.decoded.steered = false) (i : InitId) (code : RespCode) (data : List Word)
    (j : InitId) : ∀ x ∈ (respond i code data s).channels[j], x.decoded.steered = false := by
  refine acceptOffer_unsteered (by exact hoff) (fun k => ?_) i j
  rw [getElem_set_place]
  split
  · exact fun x hx => h i x (List.mem_of_mem_tail hx)
  · exact h k

theorem Traffic.unsteered {p : Perm} {s t : State} (h : Traffic p s t) (hoff : s.steering = .off)
    (hs : ∀ i : InitId, ∀ x ∈ s.channels[i], x.decoded.steered = false) :
    ∀ i : InitId, ∀ x ∈ t.channels[i], x.decoded.steered = false := by
  have hsame : t.channels = s.channels → ∀ i : InitId, ∀ x ∈ t.channels[i], x.decoded.steered = false := fun heq => heq ▸ hs
  cases h with
  | accept i => exact acceptOffer_unsteered hoff hs i
  | answer i code data => exact respond_unsteered hoff hs i code data
  | park => exact hsame (by rw [park_eq])
  | record r => exact hsame (by simp)
  | issue r => exact hsame (by rw [issue_eq])
  | present => exact hsame (by rw [present_eq])
  | retireHead => exact hsame (by rw [retireHead_eq])
  | handOver r => exact hsame (by rw [handOver_eq])
  | settleWaiters => exact hsame (by rw [settleWaiters_eq])
  | releaseLock i => exact hsame (by rw [releaseLock_eq])
  | _ => exact hsame rfl

theorem Traffic.idle {p : Perm} {s t : State} (h : Traffic p s t) (hs : Idle p s) : Idle p t := by
  obtain ⟨hidle, hbind⟩ := hs
  have hsteering : t.steering = s.steering := by rw [h.eq]; rfl
  have hputTable : t.putTable = s.putTable := by rw [h.eq]; rfl
  have htakeTable : t.takeTable = s.takeTable := by rw [h.eq]; rfl
  refine ⟨fun hoff => ?_, fun hoff => hbind (hsteering ▸ hoff)⟩
  obtain ⟨hput, htake, hslots, hchannels⟩ := hidle (hsteering ▸ hoff)
  have hcovers : Covers p t := h.covers fun k hk => absurd (hslots k) hk
  refine ⟨fun e => ?_, fun e => ?_, fun k => ?_, h.unsteered (hsteering ▸ hoff) hchannels⟩
  · rw [hputTable]; exact hput e
  · rw [htakeTable]; exact htake e
  · exact Classical.byContradiction fun hk => hbind (hsteering ▸ hoff) (hcovers k hk)

/-- A part that is not active is idle. -/
theorem offIsIdle_of_not_active {s : State} (h : ¬ Active s) : OffIsIdle s := by
  simp only [Active, not_or, not_exists, not_and, Classical.not_not, Bool.not_eq_true] at h
  obtain ⟨hput, htake, hslots, hchannels⟩ := h
  exact fun _ => ⟨hput, htake, hslots, hchannels⟩

theorem Micro.idle {p : Perm} {s t : State} (h : Micro p s t) (hs : Idle p s) : Idle p t := by
  obtain ⟨hidle, hbind⟩ := id hs
  cases h with
  | traffic h => exact h.idle hs
  | dropRecord _ => rw [dropRecord_eq]; exact hs
  | setPut e b hb _ =>
    refine ⟨fun hoff => ?_, hbind⟩
    obtain ⟨hput, hrest⟩ := hidle hoff
    have hnone : b = none := Option.not_isSome_iff_eq_none.mp fun h => hbind hoff (hb h)
    exact ⟨fun f => by rw [State.setPut_putTable, getElem_set_place, hnone, hput f, ite_self], hrest⟩
  | setTake e b hb _ =>
    refine ⟨fun hoff => ?_, hbind⟩
    obtain ⟨hput, htake, hrest⟩ := hidle hoff
    have hnone : b = none := Option.not_isSome_iff_eq_none.mp fun h => hbind hoff (hb h)
    exact ⟨hput, fun f => by rw [State.setTake_takeTable, getElem_set_place, hnone, htake f, ite_self], hrest⟩
  | voidTables q _ =>
    refine ⟨fun hoff => ?_, hbind⟩
    obtain ⟨hput, htake, hrest⟩ := hidle hoff
    exact ⟨fun e => by rw [getElem_mapTable, hput e]; rfl, fun e => by rw [getElem_mapTable, htake e]; rfl, hrest⟩
  | clearTables _ =>
    refine ⟨fun hoff => ?_, hbind⟩
    obtain ⟨-, -, hrest⟩ := hidle hoff
    exact ⟨fun e => by simp, fun e => by simp, hrest⟩
  | resetUnits _ =>
    refine ⟨fun hoff => ?_, hbind⟩
    obtain ⟨hput, htake, -⟩ := hidle hoff
    exact ⟨hput, htake, fun k => by simp [Machine.resetUnits], fun i => by simp [Machine.resetUnits]⟩
  | steerOn _ => exact ⟨fun hoff => absurd hoff (by simp), fun hoff => absurd hoff (by simp)⟩
  | steerOff _ hquiet hnot => 
    exact ⟨offIsIdle_of_not_active (s := { s with steering := .off }) (not_active_of_quiet hquiet), fun _ => hnot⟩
  | _ => exact hs


/-- With steering OFF an idle part is not active. -/
theorem OffIsIdle.not_active {s : State} (h : OffIsIdle s) (hoff : s.steering = .off) : ¬ Active s := by
  obtain ⟨hput, htake, hslots, hchannels⟩ := h hoff
  rintro (⟨e, he⟩ | ⟨e, he⟩ | ⟨k, hk⟩ | ⟨i, x, hx, hsteered⟩)
  · exact he (hput e)
  · exact he (htake e)
  · exact hk (hslots k)
  · rw [hchannels i x hx] at hsteered
    cases hsteered

theorem assertPwrReset_offIsIdle (s : State) : OffIsIdle (assertPwrReset s) :=
  fun _ => ⟨fun e => by simp [assertPwrReset, State.reset], fun e => by simp [assertPwrReset, State.reset],
    fun k => by simp [assertPwrReset, State.reset], fun i => by simp [assertPwrReset, State.reset]⟩

theorem StepKind.offIsIdle {s t : State} (h : StepKind s t) (hs : OffIsIdle s) : OffIsIdle t := by
  by_cases hreset : t = assertPwrReset s
  · rw [hreset]
    exact assertPwrReset_offIsIdle s
  · obtain ⟨c, hwork⟩ := h.work hreset
    exact (hwork.keeps (P := Idle (permOf c s)) (fun _ _ hm => hm.idle) ⟨hs, hs.not_active⟩).1

/-- While steering is OFF no word is locked: a lock is held for a merge request, which is steered (R114, R137). -/
theorem Accounted.no_lock {s : State} (h : Accounted s) (hoff : s.steering = .off) : s.locks = [] := by
  obtain ⟨-, -, -, hchannels⟩ := h.off hoff
  refine List.eq_nil_iff_forall_not_mem.mpr fun l hl => ?_
  obtain ⟨b, hb, -⟩ := h.requests.locked l hl
  obtain ⟨r, op, mask, target, k, hhead, -⟩ := h.requests.merging l.init b hb
  have := hchannels l.init _ (List.mem_of_head? hhead)
  cases this

/-! ### Expiry -/

theorem respond_slots (i : InitId) (code : RespCode) (data : List Word) (s : State) :
    (respond i code data s).slots = s.slots ∧ (respond i code data s).arrival = s.arrival := by
  rw [respond_eq]
  exact ⟨rfl, rfl⟩

/-- An expiry empties its slot and takes it off the arrival list (R97, R98). -/
theorem expire_slots (k : SlotId) (x : Slot) (s : State) :
    (expire k x s).slots = s.slots.set k none ∧ (expire k x s).arrival = s.arrival.filter fun j => decide (j ≠ k) := by
  unfold expire
  split
  · unfold expireTake
    dsimp only
    rw [respond_eq]
    exact ⟨rfl, rfl⟩
  · unfold expirePut
    dsimp only
    split
    · rw [respondFault_eq, State.appendRecord_eq]
      exact ⟨rfl, rfl⟩
    · rw [dropWrite_eq]
      exact ⟨rfl, rfl⟩

/-- One turn of the expiries of an advance. -/
def expireSlot (s : State) (k : SlotId) : State :=
  match s.slots[k] with
  | some x => if s.due x then expire k x s else s
  | none => s

theorem expireDue_cons (k : SlotId) (ks : List SlotId) (s : State) :
    expireDue (k :: ks) s = expireDue ks (expireSlot s k) := rfl

theorem expireSlot_tickCount (s : State) (k : SlotId) : (expireSlot s k).tickCount = s.tickCount := by
  unfold expireSlot
  repeat' split
  · rw [expire_eq]; rfl
  · rfl
  · rfl

/-- A turn of the expiries empties its slot if the request in it is due, and leaves the others. -/
theorem expireSlot_slots (s : State) (k j : SlotId) :
    (expireSlot s k).slots[j] = if j = k then s.slots[k].filter (fun x => !s.due x) else s.slots[j] := by
  unfold expireSlot
  cases hk : s.slots[k] with
  | none =>
    dsimp only
    split
    next h => rw [h, hk]; rfl
    · rfl
  | some x =>
    dsimp only
    by_cases hdue : s.due x = true
    · rw [if_pos hdue, (expire_slots k x s).1, getElem_set_place]
      simp [Option.filter_some, hdue]
    · rw [if_neg hdue]
      split
      next h => subst h; simp [Option.filter_some, hk, hdue]
      · rfl

/-- The expiries of an advance empty the slots of their order in which a request is due, and leave the others (R87). -/
theorem expireDue_slots (order : List SlotId) (s : State) (j : SlotId) :
    (expireDue order s).slots[j] = if j ∈ order then s.slots[j].filter (fun x => !s.due x) else s.slots[j] := by
  induction order generalizing s with
  | nil => rfl
  | cons k ks ih =>
    have hdue (x : Slot) : (expireSlot s k).due x = s.due x := by rw [State.due, expireSlot_tickCount]; rfl
    rw [expireDue_cons, ih, expireSlot_slots]
    simp only [hdue, List.mem_cons]
    by_cases hjk : j = k
    · subst hjk
      cases hx : s.slots[j] with
      | none => simp
      | some x => by_cases hd : s.due x = true <;> simp [Option.filter_some, hd]
    · simp [hjk]

theorem expireDue_arrival_subset (order : List SlotId) (s : State) : (expireDue order s).arrival ⊆ s.arrival := by
  induction order generalizing s with
  | nil => exact fun _ h => h
  | cons k ks ih =>
    refine List.Subset.trans (ih (expireSlot s k)) ?_
    unfold expireSlot
    repeat' split
    · rw [(expire_slots _ _ s).2]
      exact fun _ h => (List.mem_filter.mp h).1
    · exact fun _ h => h
    · exact fun _ h => h

/-- The end of a tick, before its expiries (R87). -/
def State.ticked (s : State) : State := { s with tickCount := s.tickCount + 1#32, tickElapsed := 0 }

theorem advanceTick_eq (s : State) : advanceTick s = expireDue s.ticked.expiryOrder s.ticked := rfl

theorem advanceTick_tickCount (s : State) : (advanceTick s).tickCount = s.ticked.tickCount := by
  rw [advanceTick_eq, expireDue_eq]
  rfl

/-- An advance leaves no held request at its deadline (R87). -/
theorem advanceTick_noneOverdue (s : State) : NoneOverdue (advanceTick s).notify := by
  intro k hk x hx
  change k ∈ (advanceTick s).arrival at hk
  change (advanceTick s).slots[k] = some x at hx
  change x.deadline ≠ (advanceTick s).tickCount
  rw [advanceTick_eq] at hk hx
  have harrival : k ∈ s.ticked.arrival := expireDue_arrival_subset _ _ hk
  have horder : k ∈ s.ticked.expiryOrder := List.mem_append_right _ harrival
  rw [expireDue_slots, if_pos horder, Option.filter_eq_some_iff] at hx
  obtain ⟨-, hdue⟩ := hx
  rw [advanceTick_tickCount]
  simpa [State.due] using hdue

/-- A held request of `t` is one of `s`, or not at its deadline. -/
theorem NoneOverdue.mono {s t : State} (h : NoneOverdue s) (hcount : t.tickCount = s.tickCount)
    (hslots : ∀ k ∈ t.arrival, ∀ x, t.slots[k] = some x → (k ∈ s.arrival ∧ s.slots[k] = some x) ∨ x.deadline ≠ s.tickCount) :
    NoneOverdue t := by
  intro k hk x hx
  rw [hcount]
  obtain ⟨hmem, hslot⟩ | hne := hslots k hk x hx
  · exact h k hmem x hslot
  · exact hne

/-- A request parked with a wait above 0 is not at its deadline (R87, R91). -/
theorem deadline_ne {wait : BitVec 16} (hwait : wait ≠ 0#16) (count : BitVec 32) : count + wait.setWidth 32 ≠ count := by
  intro h
  apply hwait
  bv_omega

theorem Traffic.noneOverdue {p : Perm} {s t : State} (h : Traffic p s t) (hs : NoneOverdue s) : NoneOverdue t := by
  have hcount : t.tickCount = s.tickCount := by rw [h.eq]; rfl
  refine hs.mono hcount ?_
  have hsame : t.slots = s.slots → t.arrival = s.arrival → ∀ k ∈ t.arrival, ∀ x, t.slots[k] = some x →
      (k ∈ s.arrival ∧ s.slots[k] = some x) ∨ x.deadline ≠ s.tickCount :=
    fun hslots harrival k hk x hx => .inl ⟨harrival ▸ hk, hslots ▸ hx⟩
  cases h with
  | vacate k =>
    intro j hj x hx
    obtain ⟨hmem, hjk⟩ := List.mem_filter.mp hj
    rw [State.vacate_slots, getElem_set_place, if_neg (by simpa using hjk)] at hx
    exact .inl ⟨hmem, hx⟩
  | park kind i r a wait hwait =>
    unfold Machine.park
    split
    · exact fun k hk x hx => .inl ⟨hk, hx⟩
    next k hk =>
      intro j hj x hx
      rw [getElem_set_place] at hx
      split at hx
      · cases hx
        exact .inr (deadline_ne hwait _)
      next hjk => exact .inl ⟨(List.mem_append.mp hj).resolve_right fun h => hjk (List.mem_singleton.mp h), hx⟩
  | accept i => exact hsame (by rw [acceptOffer_eq]) (by rw [acceptOffer_eq])
  | answer i code data => exact hsame (respond_slots i code data s).1 (respond_slots i code data s).2
  | record r => exact hsame (by simp) (by simp)
  | issue r => exact hsame (by rw [issue_eq]) (by rw [issue_eq])
  | present => exact hsame (by rw [present_eq]) (by rw [present_eq])
  | retireHead => exact hsame (by rw [retireHead_eq]) (by rw [retireHead_eq])
  | handOver r => exact hsame (by rw [handOver_eq]) (by rw [handOver_eq])
  | settleWaiters => exact hsame (by rw [settleWaiters_eq]) (by rw [settleWaiters_eq])
  | releaseLock i => exact hsame (by rw [releaseLock_eq]) (by rw [releaseLock_eq])
  | _ => exact hsame rfl rfl

theorem Micro.noneOverdue {p : Perm} {s t : State} (h : Micro p s t) (htick : ¬ p.tick) (hs : NoneOverdue s) :
    NoneOverdue t := by
  cases h with
  | traffic h => exact h.noneOverdue hs
  | dropRecord _ => rw [dropRecord_eq]; exact hs
  | tick h => exact absurd h htick
  | resetUnits _ => exact fun k hk => absurd hk (by simp [Machine.resetUnits])
  | _ => exact hs

theorem StepKind.noneOverdue {s t : State} (h : StepKind s t) (hs : NoneOverdue s) : NoneOverdue t := by
  cases h with
  | command c htick hreset h => exact (work_of_exec h hreset).keeps (fun _ _ hm => hm.noneOverdue htick) hs
  | idle h => exact h ▸ hs
  | clock n hn h => exact h ▸ hs
  | tick h => exact h ▸ advanceTick_noneOverdue s
  | reset h => exact h ▸ fun k hk => absurd hk (by simp [assertPwrReset, State.reset])

/-! ### Frames -/

theorem Micro.framesSelected {p : Perm} {s t : State} (h : Micro p s t) (hs : FramesSelected s) : FramesSelected t := by
  cases h with
  | link f select m _ hframe => exact fun hf => hframe hs hf
  | traffic h => rw [h.eq]; exact hs
  | dropRecord _ => rw [dropRecord_eq]; exact hs
  | _ => exact hs

/-! ### Link commands -/

/-- What a link command may do: nothing, or the bytes of it are ignored, or it is refused, or it is carried out (R169 to
R171). -/
theorem carryOut_cases {always : Bool} {code : Byte} {body : State → Option (State × LinkStatus × List Byte)} {s t : State}
    (h : carryOut always code body s = .next t) :
    t = s ∨ (∃ n left, t = clockBytes n left s) ∨ (∃ status, t = s.replied status []) ∨
      ∃ u status data, body s = some (u, status, data) ∧ s.frame = .receiving ∧ (always = true ∨ ∀ q, s.pendingCmd ≠ .pending q) ∧
        t = u.replied status.byte data := by
  unfold carryOut at h
  split at h
  · cases h; exact .inl rfl
  next hframe =>
    unfold decideLink at h
    split at h
    · cases h; exact .inr (.inr (.inl ⟨_, rfl⟩))
    next hbusy =>
      split at h
      · cases h; exact .inr (.inr (.inl ⟨_, rfl⟩))
      next u status data hbody =>
        cases h
        refine .inr (.inr (.inr ⟨u, status, data, hbody, hframe, ?_, rfl⟩))
        cases halways : always with
        | true => exact .inl rfl
        | false =>
          rw [halways] at hbusy
          exact .inr fun q hq => hbusy (by rw [hq]; rfl)
  · cases h; exact .inr (.inl ⟨_, _, rfl⟩)

/-! ### FLUSHING and the pending command -/

/-- Which queues are FLUSHING, and the pending command, stand. -/
structure FlushKept (s t : State) : Prop where
  queues : ∀ q, (t.queue q).isFlushing = (s.queue q).isFlushing
  pendingCmd : t.pendingCmd = s.pendingCmd

theorem FlushKept.refl (s : State) : FlushKept s s := ⟨fun _ => rfl, rfl⟩

theorem FlushKept.trans {s t u : State} (h : FlushKept s t) (h' : FlushKept t u) : FlushKept s u :=
  ⟨fun q => (h'.queues q).trans (h.queues q), h'.pendingCmd.trans h.pendingCmd⟩

theorem FlushKept.flushIsPending {s t : State} (h : FlushKept s t) (hs : FlushIsPending s) : FlushIsPending t := by
  intro q
  rw [h.queues, h.pendingCmd]
  exact hs q

/-- Where the bindings of some initiator may not be changed, no update changes which queues are FLUSHING. -/
theorem Micro.flushKept {p : Perm} (hp : ¬ ∀ i, p.owns i) {s t : State} (h : Micro p s t) : FlushKept s t := by
  cases h with
  | traffic h => rw [h.eq]; exact ⟨fun _ => rfl, rfl⟩
  | dropRecord _ => rw [dropRecord_eq]; exact ⟨fun _ => rfl, rfl⟩
  | setPending c howns => exact absurd howns hp
  | setQueue q x _ hflush =>
    refine ⟨fun r => ?_, rfl⟩
    by_cases hrq : r = q
    · rw [hrq, State.setQueue_queue_self]
      exact hflush.resolve_left hp
    · rw [s.setQueue_queue_ne hrq]
  | config q c n _ _ =>
    refine ⟨fun r => ?_, rfl⟩
    by_cases hrq : r = q
    · rw [hrq, State.setQueue_queue_self]
      rfl
    · rw [s.setQueue_queue_ne hrq]
  | _ => exact ⟨fun _ => rfl, rfl⟩

theorem Work.flushKept {p : Perm} (hp : ¬ ∀ i, p.owns i) {s t : State} (h : Work p s t) : FlushKept s t :=
  h.keeps (P := FlushKept s) (fun _ _ hm hs => hs.trans (hm.flushKept hp)) (.refl s)

/-- Every permission, but that to change the bindings of other initiators than one. -/
def Perm.of (i : InitId) : Perm where
  bind := True
  owns := fun j => j = i
  latch := fun _ => True
  clear := fun _ => True
  config := fun _ => True
  apertures := True
  pool := True
  steer := True
  interval := True
  routing := True
  tick := True
  drop := True
  link := True

theorem Perm.not_owns_of (i : InitId) : ¬ ∀ j, (Perm.of i).owns j := fun h => by
  have h0 : (0 : InitId) = i := h 0
  have h1 : (1 : InitId) = i := h 1
  exact absurd (h0.trans h1.symm) (by decide)

theorem Work.flushKept_of {i : InitId} {s t : State} (h : Work (Perm.of i) s t) : FlushKept s t :=
  h.flushKept (Perm.not_owns_of i)

theorem covers_of (i : InitId) (s : State) : Covers (Perm.of i) s := fun _ _ => trivial

theorem isFlushing_restored (x : QueueCtx) :
    ({ x with committed := [], openCount := 0, state := x.state.restored } : QueueCtx).isFlushing = false := by
  unfold QueueCtx.isFlushing
  cases x.state <;> rfl

/-- The completion of a flush ends the FLUSHING of its queue alone (R111). -/
theorem completeFlush_isFlushing (q r : QueueId) (s : State) :
    ((completeFlush q s).queue r).isFlushing = if r = q then false else (s.queue r).isFlushing := by
  unfold completeFlush
  dsimp only
  rw [appendFree_foldl_eq]
  refine (((Work.refl (p := Perm.of 0)).offerRoom (covers_of 0 _)).flushKept_of.queues r).trans ?_
  split
  next h =>
    rw [h, State.updQueue_eq, State.setQueue_queue_self]
    exact isFlushing_restored _
  next h =>
    rw [State.updQueue_eq, State.setQueue_queue_ne _ h]
    rfl

theorem completeFlush_pendingCmd (q : QueueId) (s : State) : (completeFlush q s).pendingCmd = s.pendingCmd.completed := by
  rw [completeFlush_eq]

theorem isFlushing_of_flushDone {s : State} {q : QueueId} (h : s.flushDone q = true) : (s.queue q).isFlushing = true := by
  simp only [State.flushDone, Bool.and_eq_true] at h
  exact h.1.1

/-- The completion of a flush is recorded, and no other queue is FLUSHING (R111, R172). -/
theorem FlushIsPending.tryFlush {s : State} (h : FlushIsPending s) (q : QueueId) : FlushIsPending (tryFlush q s) := by
  unfold Machine.tryFlush
  split
  next hdone =>
    have hpending : s.pendingCmd = .pending q := (h q).mp (isFlushing_of_flushDone hdone)
    intro r
    rw [completeFlush_isFlushing, completeFlush_pendingCmd, hpending]
    by_cases hrq : r = q
    · simp [hrq, PendingCmd.completed]
    · rw [if_neg hrq, h r, hpending]
      simp [PendingCmd.completed, Ne.symm hrq]
  · exact h

theorem FlushIsPending.tryFlushOwner {s : State} (h : FlushIsPending s) (owner : Option QueueId) :
    FlushIsPending (tryFlushOwner owner s) := by
  unfold Machine.tryFlushOwner
  split
  · exact h.tryFlush _
  · exact h

theorem FlushIsPending.settleDrain {s : State} (h : FlushIsPending s) : FlushIsPending (settleDrain s) := by
  have hfold : ∀ (qs : List QueueId) (u : State), FlushIsPending u → FlushIsPending (qs.foldl (fun s q => Machine.tryFlush q s) u) := by
    intro qs
    induction qs with
    | nil => exact fun _ hu => hu
    | cons q qs ih => exact fun u hu => ih _ (hu.tryFlush q)
  obtain ⟨-, -, heq⟩ | ⟨-, heq⟩ := settleDrain_cases s <;> rw [heq]
  · exact hfold upTo16 _ h
  · exact h

theorem FlushIsPending.of_work {i : InitId} {s t : State} (h : FlushIsPending s) (hwork : Work (Perm.of i) s t) :
    FlushIsPending t :=
  hwork.flushKept_of.flushIsPending h

theorem FlushIsPending.notify {s : State} (h : FlushIsPending s) : FlushIsPending s.notify := h

/-- What the acknowledgement of a cell access may do: nothing, or what the access is for. -/
theorem cellAck_cases {o : Option (CellAccess × Request × QueueAccess)} {own : CellAccess → Prop} [DecidablePred own]
    {f : CellAccess → Request → QueueAccess → State} {s t : State}
    (h : (match o with
      | some (x, r, a) => if own x then finish (f x r a) else .next s
      | none => .next s) = .next t) :
    t = s ∨ ∃ x r a, o = some (x, r, a) ∧ own x ∧ t = (f x r a).notify := by
  split at h
  · split at h <;> cases h
    · exact .inr ⟨_, _, _, rfl, by assumption, rfl⟩
    · exact .inl rfl
  · cases h
    exact .inl rfl

theorem FlushIsPending.of_cellAck {o : Option (CellAccess × Request × QueueAccess)} {own : CellAccess → Prop}
    [DecidablePred own] {f : CellAccess → Request → QueueAccess → State} {s t : State}
    (h : (match o with
      | some (x, r, a) => if own x then finish (f x r a) else .next s
      | none => .next s) = .next t)
    (hs : FlushIsPending s) (hf : ∀ x r a, FlushIsPending (f x r a)) : FlushIsPending t := by
  obtain rfl | ⟨x, r, a, -, -, rfl⟩ := cellAck_cases h
  · exact hs
  · exact hf x r a

theorem FlushIsPending.composeAck {s : State} (hs : FlushIsPending s) (x : CellAccess) (r : Request) (a : QueueAccess)
    (beats : List MemBeat) : FlushIsPending (composeAck x r a beats s) := by
  have hcount : Work (Perm.of x.init) s (decFlight x.cell (retireHead s)) := Work.refl.retireHead.decFlight x.cell
  refine (hs.of_work (i := x.init) ?_).tryFlushOwner _
  split
  · exact (hcount.updCell x.cell _).answerAccess ..
  · exact hcount.answerAccess ..

theorem FlushIsPending.closeAck {s : State} (hs : FlushIsPending s) (x : CellAccess) (r : Request) (a : QueueAccess)
    (beats : List MemBeat) : FlushIsPending (closeAck x r a beats s) := by
  have hfreed : Work (Perm.of x.init) s (freePutBinding x.init a.queue (decFlight x.cell (retireHead s))) :=
    (Work.refl.retireHead.decFlight x.cell).freePutBinding a.queue rfl
  refine (hs.of_work (i := x.init) ?_).tryFlushOwner _
  split
  · exact (((hfreed.appendFree x.cell).decOpen x.queue).memoryFault x r a).offerRoom (covers_of _ s)
  · exact ((hfreed.commitCell x.queue x.cell).answer ..).serveTakes (covers_of _ s) x.queue

theorem FlushIsPending.readAck {s : State} (hs : FlushIsPending s) (x : CellAccess) (r : Request) (a : QueueAccess)
    (beats : List MemBeat) : FlushIsPending (readAck x r a beats s) :=
  (hs.of_work (i := x.init) ((Work.refl.retireHead.decFlight x.cell).answerAccess ..)).tryFlushOwner _

theorem FlushIsPending.closeReadAck {s : State} (hs : FlushIsPending s) (x : CellAccess) (r : Request) (a : QueueAccess)
    (beats : List MemBeat) : FlushIsPending (closeReadAck x r a beats s) := by
  have hcount : Work (Perm.of x.init) s (decFlight x.cell (retireHead s)) := Work.refl.retireHead.decFlight x.cell
  refine (hs.of_work (i := x.init) ?_).tryFlushOwner _
  split
  · exact hcount.memoryFault x r a
  · have hlist := ((hcount.answer x.init .ok (r.body.returned beats)).freeTakeBinding x.queue rfl).updQueue x.queue
      (f := fun y => { y with committed := y.committed.erase x.cell }) rfl (.inr rfl)
    unfold retireCell
    dsimp only
    split
    · exact (hlist.appendFree x.cell).offerRoom (covers_of _ s)
    · exact hlist

theorem FlushIsPending.peekAnswer {s : State} (hs : FlushIsPending s) (x : CellAccess) (r : Request) (a : QueueAccess)
    (beats : List MemBeat) : FlushIsPending (peekAnswer x r a beats s) := by
  have hanswer : Work (Perm.of x.init) s (answerAccess x r a beats (releasePin x.cell (retireHead s)).1) :=
    (Work.refl.retireHead.releasePin x.cell).answerAccess x r a beats
  refine (hs.of_work (i := x.init) ?_).tryFlushOwner _
  split
  · exact hanswer.offerRoom (covers_of _ s)
  · exact hanswer

theorem resetTables_flushKept (s : State) : FlushKept s (resetTables s) := by
  have hbound := (Work.foldl (fun _ e hu => hu.requeueBound e) upTo16
    (Work.foldl (fun _ e hu => hu.freeBound e) upTo16 (Work.refl (p := Perm.of 0) (s := s)))).flushKept_of
  unfold resetTables
  dsimp only
  generalize upTo16.foldl requeueBound (upTo16.foldl freeBound s) = u at hbound ⊢
  exact ⟨hbound.queues, hbound.pendingCmd⟩

/-- SYS_RESET leaves which queues are FLUSHING, until its drain ends (R25). -/
theorem FlushIsPending.assertSysReset {s : State} (hs : FlushIsPending s) : FlushIsPending (assertSysReset s) := by
  have hunits : FlushKept s (resetUnits { s with sysReset := true }) := ⟨fun _ => rfl, rfl⟩
  have hdropped (ws : List Waiter) (u : State) : FlushKept u (ws.foldl dropWaiter u) :=
    (Work.foldl (fun _ w hu => hu.dropWaiter w) ws (Work.refl (p := Perm.of 0))).flushKept_of
  exact FlushIsPending.settleDrain (((hunits.trans (resetTables_flushKept _)).trans (hdropped s.waiting _)).flushIsPending hs)

/-- The start of a flush makes its queue FLUSHING and its command pending (R108). -/
theorem FlushIsPending.startFlush {s : State} (hs : FlushIsPending s) (hidle : ∀ q, s.pendingCmd ≠ .pending q)
    (q : QueueId) : FlushIsPending (startFlush q s) := by
  have hreleased (u : State) : FlushKept u (releaseHeld q releaseFlushed u) :=
    (Work.releaseHeld (Work.refl (p := Perm.of 0)) q fun k _ _ hu => (hu.vacate k).answer ..).flushKept_of
  intro r
  refine (iff_of_eq (congrArg (· = true) ((hreleased _).queues r))).trans ?_
  change _ ↔ PendingCmd.pending q = .pending r
  by_cases hrq : r = q
  · rw [hrq, State.updQueue_eq, State.setQueue_queue_self]
    unfold QueueCtx.isFlushing
    cases (s.queue q).state <;> simp [QueueState.flushed]
  · rw [State.updQueue_eq, State.setQueue_queue_ne _ hrq, hs r]
    simp [hidle r, Ne.symm hrq]

theorem FlushIsPending.flushQueue {s : State} (hs : FlushIsPending s) (hidle : ∀ q, s.pendingCmd ≠ .pending q)
    (q : QueueId) : FlushIsPending (flushQueue q s).1 := by
  have hstart := (hs.startFlush hidle q).tryFlush q
  unfold Machine.tryFlush at hstart
  unfold Machine.flushQueue
  dsimp only
  split
  next h => rwa [if_pos h] at hstart
  next h => rwa [if_neg h] at hstart

theorem FlushIsPending.discardedAck {s t : State} (hs : FlushIsPending s) {beats : List MemBeat}
    (h : exec (.discardedAck beats) s = .next t) : FlushIsPending t := by
  have hretire : Work (Perm.of 0) s (retireHead s) := Work.refl.retireHead
  change execDiscardedAck beats s = _ at h
  unfold execDiscardedAck at h
  repeat' split at h
  all_goals cases h
  · exact hs
  · exact hs.of_work hretire
  · exact ((hs.of_work (hretire.dropAccess _)).settleDrain).notify
  · exact hs.of_work hretire
  · exact hs.of_work hretire
  · exact hs.of_work hretire
  · exact hs.of_work hretire
  · exact hs

theorem not_owns_permOf {c : Instr} (hc : flushCommand c = false) (s : State) : ¬ ∀ i, (permOf c s).owns i := fun h => by
  have hwindow (i : InitId) : c ∈ windowCommand i := (h i).resolve_left (by simp [hc])
  exact absurd (eq_of_owns (hwindow 0) (h 1)) (by decide)

theorem exec_flushIsPending {c : Instr} {s t : State} (h : exec c s = .next t) (hreset : c ≠ .pwrResetAssert)
    (hs : FlushIsPending s) : FlushIsPending t := by
  cases hc : flushCommand c with
  | false => exact ((work_of_exec h hreset).flushKept (not_owns_permOf hc s)).flushIsPending hs
  | true =>
    cases c with
    | compositionWriteAck beats => exact .of_cellAck h hs fun x r a => hs.composeAck x r a beats
    | closingWriteAck beats => exact .of_cellAck h hs fun x r a => hs.closeAck x r a beats
    | putWindowReadAck beats => exact .of_cellAck h hs fun x r a => hs.readAck x r a beats
    | takeReadAck beats => exact .of_cellAck h hs fun x r a => hs.readAck x r a beats
    | closingReadAck beats => exact .of_cellAck h hs fun x r a => hs.closeReadAck x r a beats
    | peekAck beats => exact .of_cellAck h hs fun x r a => hs.peekAnswer x r a beats
    | discardedAck beats => exact hs.discardedAck h
    | flushCompletion q =>
      have htry := hs.tryFlush q
      change execFlushCompletion q s = _ at h
      unfold execFlushCompletion at h
      unfold Machine.tryFlush at htry
      split at h <;> cases h
      next hdone => rwa [if_pos hdone] at htry
      · exact hs
    | sysResetAssert =>
      change execSysResetAssert s = _ at h
      unfold execSysResetAssert at h
      repeat' split at h
      all_goals cases h
      · exact hs
      · exact hs
      · exact hs.assertSysReset
    | resetDrainEnd =>
      have hsettle := hs.settleDrain
      change execResetDrainEnd s = _ at h
      unfold execResetDrainEnd at h
      unfold Machine.settleDrain at hsettle
      split at h
      next hover =>
        rw [if_pos hover] at hsettle
        obtain rfl : (endDrain s).notify = t := by injection h
        exact hsettle.notify
      · cases h
        exact hs
    | queueFlush b =>
      obtain rfl | ⟨n, left, rfl⟩ | ⟨status, rfl⟩ | ⟨u, status, data, hbody, -, hidle, rfl⟩ := carryOut_cases h
      · exact hs
      · exact hs
      · exact hs
      · obtain ⟨q, -, hq⟩ := Option.map_eq_some_iff.mp hbody
        have hflush := hs.flushQueue (hidle.resolve_left (by simp)) q
        rw [hq] at hflush
        exact hflush
    | _ => cases hc

theorem StepKind.flushIsPending {s t : State} (h : StepKind s t) (hs : FlushIsPending s) : FlushIsPending t := by
  cases h with
  | command c htick hreset h => exact exec_flushIsPending h hreset hs
  | idle h => exact h ▸ hs
  | clock n hn h => exact h ▸ hs
  | tick h =>
    have hwork : Work (Perm.of 0) s (advanceTick s) := Work.refl.advanceTick (covers_of 0 s) trivial
    exact h ▸ (hs.of_work hwork).notify
  | reset h =>
    intro q
    rw [h]
    simp [assertPwrReset, State.reset, State.queue, QueueCtx.initial, QueueCtx.isFlushing]

/-- Settles O7: each part by the kind of the step. -/
theorem idleAndPendingKept : Obligations.IdleAndPendingKept := by
  refine ⟨fun s t h => ?_, fun s h hoff => h.no_lock hoff⟩
  obtain ⟨l, hkind⟩ := stepKind_of_step h
  exact ⟨fun hs => hkind.offIsIdle hs, fun hs => hkind.flushIsPending hs, fun hs => hkind.noneOverdue hs,
    fun hs => step_keeps (P := FramesSelected) (fun _ _ h => h) (fun _ _ _ hm => hm.framesSelected)
      (fun _ _ hf => absurd rfl hf) h hs⟩

end Sys2Proof.Machine
end

section
/-! PROOF. READY and the attention lines at the end of every step. -/

namespace Sys2Proof.Machine

/-! ### What the NU looks at -/

/-- The inputs and the outputs of the NU (R145, R150). -/
def State.nu (s : State) := (s.flags, s.queues, s.cells, s.log, s.faultRouting, s.attnA, s.attnB)

/-- A step that leaves the inputs and the outputs of the NU leaves them in agreement. -/
theorem Notified.of_nu {s t : State} (h : Notified s) (hnu : t.nu = s.nu) : Notified t := by
  simp only [State.nu, Prod.mk.injEq] at hnu
  obtain ⟨hflags, hqueues, hcells, hlog, hrouting, hattnA, hattnB⟩ := hnu
  have havailable (q : QueueId) : t.available q = s.available q := by
    simp only [State.available, State.committedIn, State.queue, State.cell, hqueues, hcells]
    rfl
  have hline (l : Line) : t.lineLevel l = s.lineLevel l := by
    simp only [State.lineLevel, State.queue, hqueues, hflags, hlog, hrouting]
    rfl
  unfold Notified at h ⊢
  simpa only [havailable, hline, hflags, hattnA, hattnB] using h

theorem notify_notified (s : State) : Notified s.notify := by
  refine ⟨fun q => ?_, rfl, rfl⟩
  rw [notify_flag]
  rfl

@[simp] theorem respond_nu (i : InitId) (code : RespCode) (data : List Word) (s : State) :
    (respond i code data s).nu = s.nu := by rw [respond_eq]; rfl
@[simp] theorem acceptOffer_nu (i : InitId) (s : State) : (acceptOffer i s).nu = s.nu := by rw [acceptOffer_eq]; rfl
@[simp] theorem issue_nu (r : MemReq) (s : State) : (issue r s).nu = s.nu := by rw [issue_eq]; rfl
@[simp] theorem present_nu (s : State) : (present s).nu = s.nu := by rw [present_eq]; rfl
@[simp] theorem retireHead_nu (s : State) : (retireHead s).nu = s.nu := by rw [retireHead_eq]; rfl
@[simp] theorem handOver_nu (r : MemReq) (s : State) : (handOver r s).nu = s.nu := by rw [handOver_eq]; rfl
@[simp] theorem settleWaiters_nu (s : State) : (settleWaiters s).nu = s.nu := by rw [settleWaiters_eq]; rfl
@[simp] theorem releaseLock_nu (i : InitId) (s : State) : (releaseLock i s).nu = s.nu := by rw [releaseLock_eq]; rfl
@[simp] theorem endMerge_nu (i : InitId) (s : State) : (endMerge i s).nu = s.nu := by rw [endMerge, releaseLock_nu]; rfl
@[simp] theorem take_nu (s : State) (i : InitId) : (s.take i).nu = s.nu := rfl
@[simp] theorem setMerge_nu (s : State) (i : InitId) (m : Option MergeBeat) : (s.setMerge i m).nu = s.nu := rfl
@[simp] theorem setStage_nu (i : InitId) (stage : BeatStage) (s : State) : (setStage i stage s).nu = s.nu := rfl
@[simp] theorem takeLock_nu (i : InitId) (word : Addr) (s : State) : (takeLock i word s).nu = s.nu := rfl
@[simp] theorem offerRequest_nu (i : InitId) (r : Request) (s : State) : (offerRequest i r s).nu = s.nu := rfl
@[simp] theorem releaseSelect_nu (s : State) : s.releaseSelect.nu = s.nu := rfl
@[simp] theorem sendMdo_nu (s : State) (n : Nat) : (s.sendMdo n).nu = s.nu := rfl
@[simp] theorem clockBytes_nu (n : Nat) (left : List Byte) (s : State) : (clockBytes n left s).nu = s.nu := rfl

/-! ### Commands -/

/-- An outcome keeps what the NU derives. -/
def NotifiedAfter (s : State) (o : Host.Outcome State Fault Refusal) : Prop := ∀ t, o = .next t → Notified s → Notified t

@[simp] theorem notifiedAfter_finish (s t : State) : NotifiedAfter s (finish t) := by
  rintro _ ⟨⟩ -
  exact notify_notified t

@[simp] theorem notifiedAfter_next {s t : State} (h : t.nu = s.nu) : NotifiedAfter s (.next t) := by
  rintro _ ⟨⟩ hs
  exact hs.of_nu h

@[simp] theorem notifiedAfter_answerLink (s t : State) (status : LinkStatus) (data : List Byte) :
    NotifiedAfter s (answerLink status data t) := notifiedAfter_finish s _

theorem notifiedAfter_carryOut (always : Bool) (code : Byte) (body : State → Option (State × LinkStatus × List Byte))
    (s : State) : NotifiedAfter s (carryOut always code body s) := by
  intro t h hs
  obtain rfl | ⟨n, left, rfl⟩ | ⟨status, rfl⟩ | ⟨u, status, data, -, -, -, rfl⟩ := carryOut_cases h
  · exact hs
  · exact hs.of_nu rfl
  · exact notify_notified _
  · exact notify_notified _

theorem exec_notifiedAfter (c : Instr) (s : State) (hreset : c ≠ .pwrResetAssert) : NotifiedAfter s (exec c s) := by
  cases c with
  | requestAccept i offer =>
    change NotifiedAfter s (execRequestAccept i offer s)
    unfold execRequestAccept
    repeat' split
    all_goals simp
  | adRefusalAnswer i =>
    change NotifiedAfter s (execAdRefusalAnswer i s)
    unfold execAdRefusalAnswer
    repeat' split
    all_goals simp
  | passThrough i =>
    change NotifiedAfter s (execPassThrough i s)
    unfold execPassThrough
    repeat' split
    all_goals simp
  | passThroughAck beats =>
    change NotifiedAfter s (execPassThroughAck beats s)
    unfold execPassThroughAck
    repeat' split
    all_goals simp
  | putWindowWrite i =>
    change NotifiedAfter s (execPutWindowWrite i s)
    unfold execPutWindowWrite
    repeat' split
    all_goals simp
  | compositionWriteAck beats =>
    change NotifiedAfter s (execCompositionWriteAck beats s)
    unfold execCompositionWriteAck
    repeat' split
    all_goals simp
  | closingWriteAck beats =>
    change NotifiedAfter s (execClosingWriteAck beats s)
    unfold execClosingWriteAck
    repeat' split
    all_goals simp
  | putWindowRead i =>
    change NotifiedAfter s (execPutWindowRead i s)
    unfold execPutWindowRead
    repeat' split
    all_goals simp
  | putWindowReadAck beats =>
    change NotifiedAfter s (execPutWindowReadAck beats s)
    unfold execPutWindowReadAck
    repeat' split
    all_goals simp
  | takeWindowRead i =>
    change NotifiedAfter s (execTakeWindowRead i s)
    unfold execTakeWindowRead
    repeat' split
    all_goals simp
  | takeReadAck beats =>
    change NotifiedAfter s (execTakeReadAck beats s)
    unfold execTakeReadAck
    repeat' split
    all_goals simp
  | closingReadAck beats =>
    change NotifiedAfter s (execClosingReadAck beats s)
    unfold execClosingReadAck
    repeat' split
    all_goals simp
  | peekRead i =>
    change NotifiedAfter s (execPeekRead i s)
    unfold execPeekRead
    repeat' split
    all_goals simp
  | peekAck beats =>
    change NotifiedAfter s (execPeekAck beats s)
    unfold execPeekAck
    repeat' split
    all_goals simp
  | abandon i =>
    change NotifiedAfter s (execAbandon i s)
    unfold execAbandon controlWriteIf
    repeat' split
    all_goals simp
  | returnWord i =>
    change NotifiedAfter s (execReturn i s)
    unfold execReturn controlWriteIf
    repeat' split
    all_goals simp
  | eventsWrite i =>
    change NotifiedAfter s (execEventsWrite i s)
    unfold execEventsWrite controlWriteIf
    repeat' split
    all_goals simp
  | controlWordWrite i =>
    change NotifiedAfter s (execControlWordWrite i s)
    unfold execControlWordWrite controlWriteIf
    repeat' split
    all_goals simp
  | mergeRead i =>
    change NotifiedAfter s (execMergeRead i s)
    unfold execMergeRead
    repeat' split
    all_goals simp
  | mergeReadAck beats =>
    change NotifiedAfter s (execMergeReadAck beats s)
    unfold execMergeReadAck
    repeat' split
    all_goals simp
  | mergeWrite i =>
    change NotifiedAfter s (execMergeWrite i s)
    unfold execMergeWrite
    repeat' split
    · exact notifiedAfter_finish _ _
    · exact notifiedAfter_next rfl
    all_goals exact notifiedAfter_next rfl
  | mergeBeatLock i =>
    change NotifiedAfter s (execMergeBeatLock i s)
    unfold execMergeBeatLock
    split
    · dsimp only
      split <;> exact notifiedAfter_next rfl
    · exact notifiedAfter_next rfl
  | mergeBeatReadIssue i =>
    change NotifiedAfter s (execMergeBeatReadIssue i s)
    unfold execMergeBeatReadIssue
    split
    · dsimp only
      split <;> simp
    · exact notifiedAfter_next rfl
  | mergeBeatReadAck beats =>
    change NotifiedAfter s (execMergeBeatReadAck beats s)
    unfold execMergeBeatReadAck
    repeat' split
    all_goals simp
  | mergeBeatWriteAck beats =>
    change NotifiedAfter s (execMergeBeatWriteAck beats s)
    unfold execMergeBeatWriteAck
    repeat' split
    all_goals simp
  | lockWaiterRelease => exact notifiedAfter_next (settleWaiters_nu s)
  | memoryPresent => exact notifiedAfter_next (present_nu s)
  | discardedAck beats =>
    change NotifiedAfter s (execDiscardedAck beats s)
    unfold execDiscardedAck
    repeat' split
    all_goals simp
  | tickAdvance =>
    change NotifiedAfter s (execTickAdvance s)
    unfold execTickAdvance
    repeat' split
    all_goals simp
  | heldTakeExpiry i =>
    change NotifiedAfter s (execHeldTakeExpiry i s)
    unfold execHeldTakeExpiry
    repeat' split
    all_goals simp
  | heldPutExpiry i =>
    change NotifiedAfter s (execHeldPutExpiry i s)
    unfold execHeldPutExpiry
    repeat' split
    all_goals simp
  | heldPutGrant =>
    change NotifiedAfter s (execHeldPutGrant s)
    unfold execHeldPutGrant
    repeat' split
    all_goals simp
  | heldTakeService q =>
    change NotifiedAfter s (execHeldTakeService q s)
    unfold execHeldTakeService
    repeat' split
    all_goals simp
  | flushCompletion q =>
    change NotifiedAfter s (execFlushCompletion q s)
    unfold execFlushCompletion
    repeat' split
    all_goals simp
  | sysResetAssert =>
    change NotifiedAfter s (execSysResetAssert s)
    unfold execSysResetAssert
    repeat' split
    · exact notifiedAfter_next rfl
    · exact notifiedAfter_next rfl
    · exact notifiedAfter_finish _ _
  | sysResetRelease =>
    change NotifiedAfter s (execSysResetRelease s)
    unfold execSysResetRelease
    exact notifiedAfter_next rfl
  | resetDrainEnd =>
    change NotifiedAfter s (execResetDrainEnd s)
    unfold execResetDrainEnd
    repeat' split
    all_goals simp
  | pwrResetAssert => exact absurd rfl hreset
  | pwrResetRelease =>
    change NotifiedAfter s (execPwrResetRelease s)
    unfold execPwrResetRelease
    split <;> exact notifiedAfter_next rfl
  | frameAbort =>
    change NotifiedAfter s (execFrameAbort s)
    unfold execFrameAbort
    split <;> exact notifiedAfter_next rfl
  | responseCut =>
    change NotifiedAfter s (execResponseCut s)
    unfold execResponseCut
    repeat' split
    all_goals exact notifiedAfter_next rfl
  | unknownCommand code =>
    change NotifiedAfter s (execUnknownCommand code s)
    unfold execUnknownCommand
    repeat' split
    · exact notifiedAfter_next rfl
    · exact notifiedAfter_answerLink s s _ _
    · exact notifiedAfter_next rfl
    · exact notifiedAfter_next rfl
  | identify => exact notifiedAfter_carryOut _ _ _ _
  | status => exact notifiedAfter_carryOut _ _ _ _
  | apertureRead _ => exact notifiedAfter_carryOut _ _ _ _
  | apertureWrite _ _ => exact notifiedAfter_carryOut _ _ _ _
  | apertureEnable _ => exact notifiedAfter_carryOut _ _ _ _
  | apertureDisable _ => exact notifiedAfter_carryOut _ _ _ _
  | queueConfigRead _ => exact notifiedAfter_carryOut _ _ _ _
  | queueConfigWrite _ _ => exact notifiedAfter_carryOut _ _ _ _
  | queueEnable _ => exact notifiedAfter_carryOut _ _ _ _
  | queueDisable _ => exact notifiedAfter_carryOut _ _ _ _
  | queueFlush _ => exact notifiedAfter_carryOut _ _ _ _
  | queueStateRead _ => exact notifiedAfter_carryOut _ _ _ _
  | countersClear _ => exact notifiedAfter_carryOut _ _ _ _
  | eventsClear _ _ => exact notifiedAfter_carryOut _ _ _ _
  | poolConfig _ _ _ => exact notifiedAfter_carryOut _ _ _ _
  | tickConfig _ => exact notifiedAfter_carryOut _ _ _ _
  | steerOn => exact notifiedAfter_carryOut _ _ _ _
  | steerOff => exact notifiedAfter_carryOut _ _ _ _
  | lineConfig _ => exact notifiedAfter_carryOut _ _ _ _
  | faultPeek => exact notifiedAfter_carryOut _ _ _ _
  | faultDrop => exact notifiedAfter_carryOut _ _ _ _
  | summaryRead i =>
    change NotifiedAfter s (execSummaryRead i s)
    unfold execSummaryRead
    repeat' split
    all_goals simp
  | controlPageRead i =>
    change NotifiedAfter s (execControlPageRead i s)
    unfold execControlPageRead
    repeat' split
    all_goals simp
  | frameStart =>
    change NotifiedAfter s (execFrameStart s)
    unfold execFrameStart
    split <;> exact notifiedAfter_next rfl
  | frameEnd =>
    change NotifiedAfter s (execFrameEnd s)
    unfold execFrameEnd
    split <;> exact notifiedAfter_next rfl

/-- After PWR_RESET there is no available cell, no flag and no record (R167). -/
theorem assertPwrReset_notified (s : State) : Notified (assertPwrReset s) := by
  have hqueue (q : QueueId) : (assertPwrReset s).queue q = QueueCtx.initial := by
    simp [State.queue, assertPwrReset, State.reset]
  have hflags (q : QueueId) : (assertPwrReset s).flags[q] = EventSet.none := by simp [assertPwrReset, State.reset]
  have hline (l : Line) : (assertPwrReset s).lineLevel l = false := by
    have hlog : (assertPwrReset s).log = [] := rfl
    simp [State.lineLevel, hflags, hlog, EventSet.drives, EventSet.none]
  refine ⟨fun q => ?_, (hline .a).symm, (hline .b).symm⟩
  rw [hflags, State.available, State.committedIn, hqueue]
  rfl

theorem StepKind.notified {s t : State} (h : StepKind s t) (hs : Notified s) : Notified t := by
  cases h with
  | command c htick hreset h => exact exec_notifiedAfter c s hreset t h hs
  | idle h => exact h ▸ hs
  | clock n hn h => exact h ▸ hs
  | tick h => exact h ▸ notify_notified _
  | reset h => exact h ▸ assertPwrReset_notified s

/-! ### The attention lines -/

theorem drives_iff (f mask : EventSet) : f.drives mask = true ↔
    ((f.lost = true ∧ mask.lost = true) ∨ (f.underrun = true ∧ mask.underrun = true) ∨
     (f.watermark = true ∧ mask.watermark = true) ∨ (f.expired = true ∧ mask.expired = true) ∨
     (f.diverted = true ∧ mask.diverted = true) ∨ (f.ready = true ∧ mask.ready = true)) := by
  simp only [EventSet.drives, Bool.or_eq_true, Bool.and_eq_true, or_assoc]

theorem mem_upTo16 (q : Fin 16) : q ∈ upTo16 := by revert q; decide

/-- A line is asserted when a flag of a queue drives it or a routed record does (R150). -/
theorem lineLevel_iff (s : State) (l : Line) : s.lineLevel l = true ↔
    (∃ q : QueueId, (s.queue q).config.line = l ∧ s.flags[q].drives (s.queue q).config.eventMask = true) ∨
      (s.log ≠ [] ∧ s.faultRouting = some l) := by
  simp only [State.lineLevel, Bool.or_eq_true, List.any_eq_true, mem_upTo16, true_and, Bool.and_eq_true, decide_eq_true_eq,
    Bool.not_eq_true', List.isEmpty_eq_false_iff]

/-- Settles O5: a command ends with the NU, or leaves what the NU looks at. -/
theorem notifiedKept : Obligations.NotifiedKept := by
  refine ⟨fun s t hs h => ?_, fun s l => ?_, fun s => ⟨notify_notified s, fun q => ?_, rfl⟩⟩
  · obtain ⟨l, hkind⟩ := stepKind_of_step h
    exact hkind.notified hs
  · simp only [lineLevel_iff, drives_iff]
  · rw [notify_flag]

end Sys2Proof.Machine
end

section
/-! PROOF. The management link: the encodings of its arguments and replies, and the commands that a test of R171 refuses, read
a stored field or change one. -/

namespace Sys2Proof.Machine

/-- Settles O1: by the definition of a step. -/
theorem stepRunsFront : Obligations.StepRunsFront := fun _ _ _ => rfl

/-! ### Multi-byte fields -/

theorem leBytes_succ (n v : Nat) : leBytes (n + 1) v = BitVec.ofNat 8 v :: leBytes n (v / 256) := by
  simp only [leBytes, List.range_succ_eq_map, List.map_cons, List.map_map, pow_zero, Nat.div_one, List.cons.injEq, true_and]
  exact List.map_congr_left fun k _ => by simp [Nat.pow_succ', Nat.div_div_eq_div_mul]

/-- The bytes of a field are those that the statements write (section 13.1). -/
theorem bytesOfNat_eq (n v : Nat) : bytesOfNat n v = leBytes n v := by
  induction n generalizing v with
  | zero => rfl
  | succ n ih => rw [bytesOfNat, ih, leBytes_succ]

theorem bytesOf_eq {w : Nat} (n : Nat) (v : BitVec w) : bytesOf n v = leBytes n v.toNat := bytesOfNat_eq n v.toNat

/-! ### Encoding checks (R181) -/

theorem index16?_eq_none {b : Byte} (h : 15 < b.toNat) : index16? b = none := by
  rw [index16?, dif_neg (by omega)]

theorem apertureKind?_le {b : Byte} {k : ApertureKind} (h : apertureKind? b = some k) : b.toNat ≤ 2 := by
  unfold apertureKind? at h
  grind

theorem mergeOp?_le {b : Byte} {o : MergeOp} (h : mergeOp? b = some o) : b.toNat ≤ 4 := by
  unfold mergeOp? at h
  grind

theorem switch?_le {b : Byte} {o : Bool} (h : switch? b = some o) : b.toNat ≤ 1 := by
  unfold switch? at h
  grind

theorem policy?_le {b : Byte} {p : Policy} (h : policy? b = some p) : b.toNat ≤ 3 := by
  unfold policy? at h
  grind

theorem line?_le {b : Byte} {l : Line} (h : line? b = some l) : b.toNat ≤ 1 := by
  unfold line? at h
  grind

theorem routing?_le {b : Byte} {l : Option Line} (h : routing? b = some l) : b.toNat ≤ 2 := by
  unfold routing? at h
  grind

theorem apertureEntry?_eq_none {im : ApertureImage} (h : badAperture im) : apertureEntry? im = none := by
  refine Option.eq_none_iff_forall_ne_some.mpr fun a ha => ?_
  obtain ⟨kind, hkind, ha⟩ := Option.bind_eq_some_iff.mp ha
  obtain ⟨queue, hqueue, ha⟩ := Option.bind_eq_some_iff.mp ha
  obtain ⟨op, hop, -⟩ := Option.bind_eq_some_iff.mp ha
  have hkind := apertureKind?_le hkind
  have hqueue := toNat_eq_of_index16? hqueue
  have hop := mergeOp?_le hop
  unfold badAperture at h
  omega

theorem cellLen?_le {b : Byte} {c : CellLen} (h : cellLen? b = some c) : b.toNat ≤ 5 := by
  unfold cellLen? at h
  grind

theorem divertTarget?_le {b : Byte} {d : Option QueueId} (h : divertTarget? b = some d) : b.toNat ≤ 15 ∨ b.toNat = 255 := by
  unfold divertTarget? at h
  split at h
  next hb => exact .inr (by rw [hb]; rfl)
  · obtain ⟨q, hq, -⟩ := Option.map_eq_some_iff.mp h
    have := toNat_eq_of_index16? hq
    omega

theorem eventMask?_le {b : Byte} {m : EventSet} (h : eventMask? b = some m) : b.toNat ≤ 63 := by
  unfold eventMask? at h
  grind

theorem limit?_toNat {v : BitVec 16} {n : Nat} (h : limit? v = some n) : n = v.toNat := by
  unfold limit? at h
  grind

theorem watermark?_toNat {v : BitVec 16} {n : Nat} (h : watermark? v = some n) : n = v.toNat := by
  unfold watermark? at h
  grind

theorem queueConfig?_eq_none {im : ConfigImage} (h : badConfig im) : queueConfig? im = none := by
  refine Option.eq_none_iff_forall_ne_some.mpr fun c hc => ?_
  obtain ⟨cellLen, hcellLen, hc⟩ := Option.bind_eq_some_iff.mp hc
  obtain ⟨limit, hlimit, hc⟩ := Option.bind_eq_some_iff.mp hc
  obtain ⟨policy, hpolicy, hc⟩ := Option.bind_eq_some_iff.mp hc
  obtain ⟨target, htarget, hc⟩ := Option.bind_eq_some_iff.mp hc
  obtain ⟨report, hreport, hc⟩ := Option.bind_eq_some_iff.mp hc
  obtain ⟨watermark, hwatermark, hc⟩ := Option.bind_eq_some_iff.mp hc
  obtain ⟨line, hline, hc⟩ := Option.bind_eq_some_iff.mp hc
  obtain ⟨mask, hmask, -⟩ := Option.bind_eq_some_iff.mp hc
  have hcellLen := cellLen?_le hcellLen
  have hlimitRange := limit?_eq_some hlimit
  have hlimit := limit?_toNat hlimit
  have hpolicy := policy?_le hpolicy
  have htarget := divertTarget?_le htarget
  have hreport := switch?_le hreport
  have hwatermarkRange := watermark?_eq_some hwatermark
  have hwatermark := watermark?_toNat hwatermark
  have hline := line?_le hline
  have hmask := eventMask?_le hmask
  unfold badConfig at h
  omega

theorem selection?_eq_none {b : Byte} (h : 31 < b.toNat) : selection? b = none := if_neg (by omega)

theorem arenaBase?_eq_none {a : Addr} (h : a.toNat % 262144 ≠ 0) : arenaBase? a = none := if_neg h

theorem poolSize?_eq_none {v : BitVec 16} (h : badCells v.toNat) : poolSize? v = none := by
  unfold badCells at h
  exact if_neg (by simp only [Config.largestPool]; omega)

theorem switch?_eq_none {b : Byte} (h : 1 < b.toNat) : switch? b = none :=
  Option.eq_none_iff_forall_ne_some.mpr fun _ hb => absurd (switch?_le hb) (by omega)

theorem routing?_eq_none {b : Byte} (h : 2 < b.toNat) : routing? b = none :=
  Option.eq_none_iff_forall_ne_some.mpr fun _ hb => absurd (routing?_le hb) (by omega)

/-! ### Refused commands (R171) -/

/-- A link command with a badly encoded argument is answered BADARG, one that is always carried out with a flush pending too. -/
theorem carryOut_badArg {always : Bool} {code : Byte} {body : State → Option (State × LinkStatus × List Byte)} {s : State}
    (hframe : s.frame = .receiving) (hidle : always = true ∨ ∀ q, s.pendingCmd ≠ .pending q) (hbody : body s = none) :
    carryOut always code body s = .next (s.replied 0x04#8 []) := by
  have hbusy : (s.pendingCmd.isPending && !always) = false := by
    obtain rfl | hidle := hidle
    · simp
    · cases h : s.pendingCmd with
      | pending q => exact absurd h (hidle q)
      | _ => rfl
  simp only [carryOut, hframe, decideLink, hbusy, Bool.false_eq_true, if_false, hbody]
  rfl

/-- A command on the entry or queue of an index byte that names none is answered BADARG. -/
theorem carryOut_badIndex {always : Bool} {code b : Byte} {f : Fin 16 → State → State × LinkStatus × List Byte} {s : State}
    (hframe : s.frame = .receiving) (hidle : always = true ∨ ∀ q, s.pendingCmd ≠ .pending q) (hb : 15 < b.toNat) :
    carryOut always code (fun s => (index16? b).map (fun k => f k s)) s = .next (s.replied 0x04#8 []) :=
  carryOut_badArg hframe hidle (by rw [index16?_eq_none hb]; rfl)

theorem exec_busy {c : Instr} {s : State} {q : QueueId} (hc : busyCommand c = true) (hframe : s.frame = .receiving)
    (hpending : s.pendingCmd = .pending q) : exec c s = .next (s.replied 0x02#8 []) := by
  cases c with
  | apertureRead _ => exact carryOut_busy hframe hpending
  | apertureWrite _ _ => exact carryOut_busy hframe hpending
  | apertureEnable _ => exact carryOut_busy hframe hpending
  | apertureDisable _ => exact carryOut_busy hframe hpending
  | queueConfigRead _ => exact carryOut_busy hframe hpending
  | queueConfigWrite _ _ => exact carryOut_busy hframe hpending
  | queueEnable _ => exact carryOut_busy hframe hpending
  | queueDisable _ => exact carryOut_busy hframe hpending
  | queueFlush _ => exact carryOut_busy hframe hpending
  | countersClear _ => exact carryOut_busy hframe hpending
  | eventsClear _ _ => exact carryOut_busy hframe hpending
  | poolConfig _ _ _ => exact carryOut_busy hframe hpending
  | tickConfig _ => exact carryOut_busy hframe hpending
  | steerOn => exact carryOut_busy hframe hpending
  | steerOff => exact carryOut_busy hframe hpending
  | lineConfig _ => exact carryOut_busy hframe hpending
  | faultPeek => exact carryOut_busy hframe hpending
  | faultDrop => exact carryOut_busy hframe hpending
  | _ => cases hc

theorem exec_badArgument {c : Instr} {s : State} (hready : s.linkReady) (hbad : badArgument c) :
    exec c s = .next (s.replied 0x04#8 []) := by
  obtain ⟨hframe, hidle⟩ := hready
  cases c with
  | apertureRead b => exact carryOut_badIndex hframe (.inr hidle) hbad
  | apertureEnable b => exact carryOut_badIndex hframe (.inr hidle) hbad
  | apertureDisable b => exact carryOut_badIndex hframe (.inr hidle) hbad
  | queueConfigRead b => exact carryOut_badIndex hframe (.inr hidle) hbad
  | queueEnable b => exact carryOut_badIndex hframe (.inr hidle) hbad
  | queueDisable b => exact carryOut_badIndex hframe (.inr hidle) hbad
  | queueFlush b => exact carryOut_badIndex hframe (.inr hidle) hbad
  | queueStateRead b => exact carryOut_badIndex hframe (.inr hidle) hbad
  | countersClear b => exact carryOut_badIndex hframe (.inr hidle) hbad
  | apertureWrite b im =>
    refine carryOut_badArg hframe (.inr hidle) ?_
    obtain hb | him := hbad
    · rw [index16?_eq_none hb]
    · rw [apertureEntry?_eq_none him]
      cases index16? b <;> rfl
  | queueConfigWrite b im =>
    refine carryOut_badArg hframe (.inr hidle) ?_
    obtain hb | him := hbad
    · rw [index16?_eq_none hb]
    · rw [queueConfig?_eq_none him]
      cases index16? b <;> rfl
  | eventsClear b sel =>
    refine carryOut_badArg hframe (.inr hidle) ?_
    obtain hb | hsel := hbad
    · rw [index16?_eq_none hb]
    · rw [selection?_eq_none hsel]
      cases index16? b <;> rfl
  | poolConfig base n g =>
    refine carryOut_badArg hframe (.inr hidle) ?_
    obtain hbase | hn | hg := hbad
    · rw [arenaBase?_eq_none hbase]
    · rw [poolSize?_eq_none hn]
      cases arenaBase? base <;> rfl
    · rw [switch?_eq_none hg]
      cases arenaBase? base <;> cases poolSize? n <;> rfl
  | lineConfig b => exact carryOut_badArg hframe (.inr hidle) (by rw [routing?_eq_none hbad]; rfl)
  | _ => exact hbad.elim

/-- Settles O16. -/
theorem refusedByTheLink : Obligations.RefusedByTheLink :=
  ⟨fun _ _ _ hc hframe hpending => exec_busy hc hframe hpending, fun _ _ hready hbad => exec_badArgument hready hbad,
    fun _ _ hframe hb => carryOut_badIndex hframe (.inl rfl) hb⟩

/-! ### IDENTIFY, STATUS and QUEUE_STATE_READ -/

/-- A link command that is always carried out answers with the result of its work, a flush pending or not. -/
theorem carryOut_always {code : Byte} {body : State → Option (State × LinkStatus × List Byte)} {s t : State}
    {status : LinkStatus} {data reply : List Byte} (hframe : s.frame = .receiving) (hbody : body s = some (t, status, data))
    (hdata : data = reply) : carryOut true code body s = .next (t.replied status.byte reply) := by
  subst hdata
  simp only [carryOut, hframe, decideLink, Bool.not_true, Bool.and_false, Bool.false_eq_true, if_false, hbody]
  rfl

/-- A table lists its places in order. -/
theorem toList_eq_map_finRange {α : Type} {n : Nat} (v : Vector α n) : v.toList = (List.finRange n).map (v[·]) := by
  refine List.ext_getElem (by simp) fun k hk _ => ?_
  simp

theorem countP_toList {α : Type} {n : Nat} (v : Vector α n) (p : α → Bool) :
    v.toList.countP p = (List.finRange n).countP (fun k => p v[k]) := by
  rw [toList_eq_map_finRange, List.countP_map]
  rfl

theorem steering_byte (x : Steering) : x.byte = if x = .on then 1#8 else 0#8 := by cases x <;> rfl

theorem identifyReply_eq (s : State) : s.identifyReply = [0x35#8, 0x0A#8, 0x16#8, 0x00#8, 0x01#8, 8#8, 16#8, 16#8, 16#8, 16#8,
    8#8, 4#8, 8#8, 0x00#8, 0x04#8, if s.steering = .on then 1#8 else 0#8] := by
  rw [State.identifyReply, steering_byte]
  rfl

theorem statusReply_eq (s : State) : s.statusReply =
    (match s.pendingCmd with
      | .idle => [0#8, 0#8, 0#8, 0#8]
      | .pending q => [1#8, 0x24#8, BitVec.ofNat 8 q.val, 0#8]
      | .complete q => [2#8, 0x24#8, BitVec.ofNat 8 q.val, 0#8]) ++
     [if s.steering = .on then 1#8 else 0#8] ++ leBytes 2 s.poolSize ++ leBytes 2 s.freeList.length ++
     [if s.drain then 1#8 else 0#8] := by
  rw [State.statusReply, steering_byte, bytesOfNat_eq, bytesOfNat_eq]
  cases s.pendingCmd <;> rfl

/-- The tests of QUEUE_STATE_READ for bindings that name a queue (R177). -/
theorem names_active (b : PutBinding) (q : QueueId) : (b.names q && b.isActive) =
    decide ((b.origin = q ∨ b.target = q) ∧ b.state ≠ .phantom ∧ b.state ≠ .voided) := by
  unfold PutBinding.names PutBinding.isActive
  cases b.state <;> simp

theorem names_state (b : PutBinding) (q : QueueId) (x : PutState) : (b.names q && decide (b.state = x)) =
    decide ((b.origin = q ∨ b.target = q) ∧ b.state = x) := by
  simp [PutBinding.names]

theorem takes_active (b : TakeBinding) (q : QueueId) : (decide (b.queue = q) && b.isActive) =
    decide (b.queue = q ∧ b.state ≠ .voided) := by
  unfold TakeBinding.isActive
  cases b.state <;> simp

theorem leBytes_one (n : Nat) : leBytes 1 n = [BitVec.ofNat 8 n] := by rw [leBytes_succ]; rfl

theorem queueState_byte (x : QueueState) : x.byte = match x with
    | .rest .disabled => 0#8
    | .rest .enabled => 1#8
    | .flushing .disabled => 2#8
    | .flushing .enabled => 6#8 := by
  cases x with
  | rest r => cases r <;> rfl
  | flushing r => cases r <;> rfl

/-- Settles O17. -/
theorem identifyAndStatus : Obligations.IdentifyAndStatus := by
  refine ⟨fun s => ⟨fun p => countP_toList _ _, fun p => countP_toList _ _, fun p => countP_toList _ _⟩,
    fun s hframe => ⟨?_, ?_⟩, fun s b q hframe hb => ?_⟩
  · exact carryOut_always (status := .done) hframe rfl (identifyReply_eq s)
  · exact carryOut_always (status := .done) hframe rfl (statusReply_eq s)
  · refine carryOut_always (status := .done) (data := s.queueReply q) hframe ?_ ?_
    · rw [index16?_of_toNat_eq hb]
      rfl
    · unfold State.queueReply
      dsimp only
      rw [queueState_byte]
      simp only [bytesOfNat_eq, bytesOf_eq, names_active, names_state, takes_active, ← Bool.decide_and,
        leBytes_one (EventSet.toNat _)]
      rfl

end Sys2Proof.Machine
end

section
/-! PROOF. The management link: the commands that read a stored field or change one (chapters 6, 7, 9 and 11). -/

namespace Sys2Proof.Machine

/-- A link command that is decided answers with the result of its work (R170, R171). -/
theorem carryOut_done {always : Bool} {code : Byte} {body : State → Option (State × LinkStatus × List Byte)} {s t : State}
    {data reply : List Byte} (hready : s.linkReady) (hbody : body s = some (t, .done, data)) (hdata : data = reply) :
    carryOut always code body s = .next (t.replied 0x00#8 reply) :=
  hdata ▸ carryOut_ready (status := .done) hready hbody

/-- A link command on the entry or queue of an index byte answers with the result of its work there. -/
theorem carryOut_index {always : Bool} {code b : Byte} {f : Fin 16 → State → State × LinkStatus × List Byte} {s t : State}
    {k : Fin 16} {status : LinkStatus} {data : List Byte} (hready : s.linkReady) (hb : b.toNat = k.val)
    (hf : f k s = (t, status, data)) :
    carryOut always code (fun s => (index16? b).map (fun k => f k s)) s = .next (t.replied status.byte data) :=
  carryOut_ready hready (by rw [index16?_of_toNat_eq hb, Option.map_some, hf])

/-! ### Replies -/

theorem aperture_reply_eq (a : Aperture) : a.reply =
    [if a.enabled then 1#8 else 0#8] ++ leBytes 5 a.base.toNat ++
      [a.sizeExp,
       (match a.kind with
        | .queue => 0#8
        | .summary => 1#8
        | .merge => 2#8),
       a.permitted, BitVec.ofNat 8 a.queue.val] ++
      leBytes 2 a.reported.toNat ++
      [match a.op with
       | .set => 0#8
       | .clear => 1#8
       | .flip => 2#8
       | .add => 3#8
       | .cond => 4#8] ++
      leBytes 8 a.mask.toNat ++ leBytes 5 a.targetBase.toNat := by
  simp only [Aperture.reply, bytesOf_eq]
  cases a.kind <;> cases a.op <;> rfl

theorem config_reply_eq (c : QueueConfig) : c.reply =
    [BitVec.ofNat 8 c.cellLen.val] ++ leBytes 2 c.limit ++
      [(match c.policy with
        | .dropNew => 0#8
        | .displaceOldest => 1#8
        | .divert => 2#8
        | .hold => 3#8),
       (match c.divertTarget with
        | none => 0xFF#8
        | some d => BitVec.ofNat 8 d.val),
       if c.report then 1#8 else 0#8] ++
      leBytes 8 c.emptyPattern.toNat ++ leBytes 2 c.takeWait.toNat ++
      leBytes 2 c.putWait.toNat ++ leBytes 2 c.watermark ++
      [(match c.line with
        | .a => 0#8
        | .b => 1#8),
       BitVec.ofNat 8 c.eventMask.toNat] := by
  simp only [QueueConfig.reply, bytesOf_eq, bytesOfNat_eq]
  cases c.policy <;> cases c.divertTarget <;> cases c.line <;> rfl

theorem optByte_eq {n : Nat} (k : Option (Fin n)) : optByte k = BitVec.ofNat 8 ((k.map Fin.val).getD 0) := by
  cases k <;> rfl

theorem presences_eq (r : FaultRecord) : r.presences =
    BitVec.ofNat 8 ((if r.init.isSome then 1 else 0) + (if r.addr.isSome then 2 else 0) +
      (if r.aperture.isSome then 4 else 0) + (if r.queue.isSome then 8 else 0)) := by
  unfold FaultRecord.presences
  cases r.init.isSome <;> cases r.addr.isSome <;> cases r.aperture.isSome <;> cases r.queue.isSome <;> rfl

theorem addr_getD_toNat (a : Option Addr) : (a.getD 0#40).toNat = (a.map BitVec.toNat).getD 0 := by
  cases a <;> rfl

theorem faultReply_cons {s : State} {r : FaultRecord} {rest : List FaultRecord} (h : s.log = r :: rest) : s.faultReply =
    [1#8,
      (match r.kind with
       | .permission => 0#8
       | .boundary => 1#8
       | .misalign => 2#8
       | .wrongWay => 3#8
       | .disabled => 4#8
       | .noBinding => 5#8
       | .memory => 6#8
       | .arena => 7#8
       | .addPartial => 8#8
       | .denied => 9#8),
      BitVec.ofNat 8 ((if r.init.isSome then 1 else 0) + (if r.addr.isSome then 2 else 0) +
        (if r.aperture.isSome then 4 else 0) + (if r.queue.isSome then 8 else 0)),
      BitVec.ofNat 8 ((r.init.map Fin.val).getD 0)] ++ leBytes 5 ((r.addr.map BitVec.toNat).getD 0) ++
     [BitVec.ofNat 8 ((r.aperture.map Fin.val).getD 0), BitVec.ofNat 8 ((r.queue.map Fin.val).getD 0)] ++
     leBytes 4 r.stamp.toNat ++ [BitVec.ofNat 8 (rest.length + 1), s.overflow] := by
  have hkind : r.kind.byte = match r.kind with
      | .permission => 0#8
      | .boundary => 1#8
      | .misalign => 2#8
      | .wrongWay => 3#8
      | .disabled => 4#8
      | .noBinding => 5#8
      | .memory => 6#8
      | .arena => 7#8
      | .addPartial => 8#8
      | .denied => 9#8 := by cases r.kind <;> rfl
  unfold State.faultReply
  rw [h]
  simp only [FaultRecord.bytes, hkind, presences_eq, optByte_eq, bytesOf_eq, bytesOfNat_eq, addr_getD_toNat, leBytes_one,
    List.length_cons, List.append_assoc, List.cons_append, List.nil_append]

/-- Settles O18. -/
theorem readReplies : Obligations.ReadReplies := by
  refine ⟨fun s b k hready hb => ?_, fun s b q hready hb => ?_, fun s hready hlog => ?_, fun s r rest hready hlog => ?_⟩
  · exact carryOut_done (data := (s.apertures[k]).reply) hready (by rw [index16?_of_toNat_eq hb]; rfl) (aperture_reply_eq _)
  · exact carryOut_done (data := (s.queue q).config.reply) hready (by rw [index16?_of_toNat_eq hb]; rfl) (config_reply_eq _)
  · exact carryOut_done (data := s.faultReply) hready rfl (by rw [State.faultReply, hlog])
  · exact carryOut_done (data := s.faultReply) hready rfl (faultReply_cons hlog)

/-! ### The Aperture Table -/

theorem index16?_ofNat (k : Fin 16) : index16? (BitVec.ofNat 8 k.val) = some k :=
  index16?_of_toNat_eq (by simp only [BitVec.toNat_ofNat]; omega)

/-- The image of an entry is that entry, disabled (section 13.2). -/
theorem apertureEntry?_image (a : Aperture) : apertureEntry? a.image = some { a with enabled := false } := by
  have hkind : apertureKind? a.kind.byte = some a.kind := by cases a.kind <;> rfl
  have hop : mergeOp? a.op.byte = some a.op := by cases a.op <;> rfl
  simp [apertureEntry?, Aperture.image, hkind, hop, index16?_ofNat]

/-- What APERTURE_ENABLE tests is what R119 asks. -/
theorem validEntry_iff (s : State) (a : Aperture) : s.validEntry a = true ↔ EntryValid s a := by
  unfold State.validEntry EntryValid
  cases a.kind <;> simp only [Bool.and_eq_true, decide_eq_true_eq, and_assoc] <;>
    simp [Aperture.size, suitedSize, quarterOf, wordsOf]

/-- Settles O19. -/
theorem apertureCommands : Obligations.ApertureCommands := by
  intro s b k hready hb
  have hwrite (a : Aperture) {t : State} {status : LinkStatus} {data : List Byte}
      (h : writeAperture k { a with enabled := false } s = (t, status, data)) :
      exec (.apertureWrite b a.image) s = .next (t.replied status.byte data) :=
    carryOut_ready hready (by rw [index16?_of_toNat_eq hb, apertureEntry?_image]; exact congrArg some h)
  have henable {t : State} {status : LinkStatus} {data : List Byte} (h : enableAperture k s = (t, status, data)) :
      exec (.apertureEnable b) s = .next (t.replied status.byte data) := carryOut_index hready hb h
  refine ⟨fun a h => hwrite a (status := .done) ?_, fun a h => hwrite a (status := .denied) ?_,
    fun h => henable (status := .done) ?_, fun h hv => henable (status := .done) ?_,
    fun h hv => henable (status := .badArg) ?_, carryOut_index (status := .done) hready hb rfl⟩
  · rw [writeAperture, if_neg (ne_true_of_eq_false h)]
    rfl
  · rw [writeAperture, if_pos h]
    rfl
  · exact if_pos h
  · exact (if_neg (ne_true_of_eq_false h)).trans (if_pos ((validEntry_iff s _).mpr hv))
  · exact (if_neg (ne_true_of_eq_false h)).trans (if_neg (mt (validEntry_iff s _).mp hv))

/-! ### Queue configurations -/

/-- No binding names a queue where the two tables say so (R105). -/
theorem unbound_iff (s : State) (q : QueueId) : s.unbound q = true ↔ Unbound s q := by
  unfold State.unbound Unbound
  simp only [toList_eq_map_finRange, List.all_map, Bool.and_eq_true, List.all_eq_true, List.mem_finRange, true_imp_iff,
    Function.comp, Bool.not_eq_true', Option.any_eq_false, PutBinding.names, Bool.or_eq_false_iff,
    decide_eq_false_iff_not, ne_eq]

theorem eventMask?_toNat (m : EventSet) : eventMask? (BitVec.ofNat 8 m.toNat) = some m := by
  obtain ⟨lost, underrun, watermark, expired, diverted, ready⟩ := m
  cases lost <;> cases underrun <;> cases watermark <;> cases expired <;> cases diverted <;> cases ready <;> rfl

theorem divertTarget?_byte (d : Option QueueId) : divertTarget? (divertByte d) = some d := by
  cases d with
  | none => rfl
  | some q =>
    have hne : BitVec.ofNat 8 q.val ≠ 0xFF#8 := fun h => by
      have := congrArg BitVec.toNat h
      simp only [BitVec.toNat_ofNat] at this
      omega
    rw [divertTarget?, divertByte, if_neg hne, index16?_ofNat]
    rfl

/-- The image of a configuration within its ranges is that configuration (section 13.3). -/
theorem queueConfig?_image {c : QueueConfig} (h : c.inRange) : queueConfig? c.image = some c := by
  obtain ⟨hmin, hmax, hwatermark⟩ := h
  have hcellLen : cellLen? (BitVec.ofNat 8 c.cellLen.val) = some c.cellLen := by
    have := c.cellLen.isLt
    have hval : (BitVec.ofNat 8 c.cellLen.val).toNat = c.cellLen.val := by simp only [BitVec.toNat_ofNat]; omega
    simp [cellLen?, hval]
  have hlimit : limit? (BitVec.ofNat 16 c.limit) = some c.limit := by
    have hval : (BitVec.ofNat 16 c.limit).toNat = c.limit := by simp only [BitVec.toNat_ofNat]; omega
    simp [limit?, hval, hmin, hmax]
  have hmark : watermark? (BitVec.ofNat 16 c.watermark) = some c.watermark := by
    have hval : (BitVec.ofNat 16 c.watermark).toNat = c.watermark := by simp only [BitVec.toNat_ofNat]; omega
    simp [watermark?, hval, hwatermark]
  have hpolicy : policy? c.policy.byte = some c.policy := by cases c.policy <;> rfl
  have hreport : switch? (byteOfBool c.report) = some c.report := by cases c.report <;> rfl
  have hline : line? c.line.byte = some c.line := by cases c.line <;> rfl
  simp [queueConfig?, QueueConfig.image, hcellLen, hlimit, hmark, hpolicy, hreport, hline, divertTarget?_byte, eventMask?_toNat]

/-- Settles O20. -/
theorem queueConfigWritten : Obligations.QueueConfigWritten := by
  intro s b q c hready hb hrange
  have hwrite {t : State} {status : LinkStatus} {data : List Byte} (h : writeConfig q c s = (t, status, data)) :
      exec (.queueConfigWrite b c.image) s = .next (t.replied status.byte data) :=
    carryOut_ready hready (by rw [index16?_of_toNat_eq hb, queueConfig?_image hrange]; exact congrArg some h)
  refine ⟨fun hstate hunbound hholding => hwrite (status := .done) ?_, fun hnot => hwrite (status := .denied) ?_⟩
  · rw [writeConfig, if_pos ⟨hstate, (unbound_iff s q).mpr hunbound, hholding⟩]
    rfl
  · rw [writeConfig, if_neg]
    · rfl
    · rintro ⟨hstate, hunbound, hholding⟩
      obtain h | h | h := hnot
      · exact h hstate
      · exact h ((unbound_iff s q).mp hunbound)
      · omega

/-! ### Plain settings -/

theorem quiet_iff (s : State) : s.quiet = true ↔ PartQuiet s := by
  unfold State.quiet PartQuiet State.queue
  simp only [toList_eq_map_finRange, List.all_map, Bool.and_eq_true, List.all_eq_true, List.mem_finRange, true_imp_iff,
    Function.comp, Option.isNone_iff_eq_none, List.isEmpty_iff, Bool.not_eq_true', and_assoc]

/-- Settles O21. -/
theorem plainSettings : Obligations.PlainSettings := by
  refine ⟨fun s b q hready hb hpool => carryOut_index (status := .denied) hready hb ?_,
    fun s b q r hready hb hpool hstate => carryOut_index (status := .done) hready hb ?_,
    fun s n hready => carryOut_done hready rfl rfl, fun s b l hready hb => ?_, fun s hready => carryOut_done hready rfl rfl,
    fun s hready => ⟨fun hoff => ?_, fun hon hquiet => ?_, fun hon hquiet => ?_⟩⟩
  · rw [enableQueue, if_pos hpool]
    rfl
  · rw [enableQueue, if_neg hpool, State.updQueue_eq, hstate]
    rfl
  · have hrouting : routing? b = some l := by
      unfold routing?
      obtain _ | _ | _ := l <;> rw [hb] <;> rfl
    exact carryOut_done hready (by rw [hrouting]; rfl) rfl
  · exact carryOut_ready (status := .done) hready (by rw [if_pos hoff])
  · exact carryOut_ready (status := .done) hready (by rw [if_neg (by simp [hon]), if_pos ((quiet_iff s).mpr hquiet)])
  · exact carryOut_ready (status := .busy) hready (by rw [if_neg (by simp [hon]), if_neg (mt (quiet_iff s).mp hquiet)])

/-! ### The pool -/

/-- Settles O22. -/
theorem poolRebuilt : Obligations.PoolRebuilt := by
  intro s base n g hready hbase hn
  have hcells : poolSize? (BitVec.ofNat 16 n) = some n := by
    have hval : (BitVec.ofNat 16 n).toNat = n := by simp only [BitVec.toNat_ofNat]; omega
    rw [poolSize?, hval]
    exact if_pos hn
  have harena : arenaBase? base = some base := if_pos hbase
  have hguard : switch? (if g then 1#8 else 0#8) = some g := by cases g <;> rfl
  have hpool {t : State} {status : LinkStatus} {data : List Byte} (h : configPool base n g s = (t, status, data)) :
      exec (.poolConfig base (BitVec.ofNat 16 n) (if g then 1#8 else 0#8)) s = .next (t.replied status.byte data) :=
    carryOut_ready hready (by rw [harena, hcells, hguard]; exact congrArg some h)
  refine ⟨fun hoff hfree => hpool (status := .done) ?_, fun hnot => hpool (status := .denied) ?_⟩
  · rw [configPool, if_pos ⟨hoff, by simpa using hfree⟩]
    rfl
  · rw [configPool, if_neg]
    · rfl
    · rintro ⟨hoff, hfree⟩
      obtain hon | ⟨x, hx, hne⟩ := hnot
      · rw [hoff] at hon
        cases hon
      · exact hne (by simpa using List.all_eq_true.mp hfree x hx)

end Sys2Proof.Machine
end

section
/-! PROOF. Requests of the system port: what an answer depends on, acceptance, refusals, pass-through, summary words, and the
merge arithmetic. -/

namespace Sys2Proof.Machine

/-! ### What an answer depends on -/

/-- The fields that an answer reads, the configurations aside: the port, the resets, and what the decode of the next offer
looks at (R121, R157 to R159). -/
def State.view (s : State) :=
  (s.offers, s.channels, s.taken, s.responses, s.pwrReset, s.sysReset, s.steering, s.apertures, s.arenaBase, s.poolSize,
    s.guardOn)

/-- The decode of a request looks at the view and the configurations alone (R121). -/
theorem decodeRequest_congr {s u : State} (hview : u.view = s.view) (hconfig : ∀ q, (u.queue q).config = (s.queue q).config)
    (i : InitId) (r : Request) : decodeRequest u i r = decodeRequest s i r := by
  simp only [State.view, Prod.mk.injEq] at hview
  obtain ⟨-, -, -, -, -, -, hsteering, hapertures, hbase, hsize, hguard⟩ := hview
  have hhit : u.hit r.addr = s.hit r.addr := by simp only [State.hit, hapertures]
  have hguards : u.guardApplies = s.guardApplies := by simp only [State.guardApplies, hsteering, hsize, hguard]
  have harena (addr : Addr) (n : Nat) : u.inArena addr n = s.inArena addr n := by simp only [State.inArena, hbase, hsize]
  unfold decodeRequest decodeHit decodeMerge
  simp only [hsteering, hhit, hguards, harena, hapertures, hconfig]

/-- An answer given on a state with the same view is one on the state itself. -/
theorem Answered.of_view {i : InitId} {code : RespCode} {data : List Word} {s u t : State} (h : Answered i code data u t)
    (hview : u.view = s.view) (hconfig : ∀ q, (u.queue q).config = (s.queue q).config := by exact fun _ => rfl) :
    Answered i code data s t := by
  have hdecode := decodeRequest_congr hview hconfig i
  simp only [State.view, Prod.mk.injEq] at hview
  obtain ⟨hoffers, hchannels, htaken, hresponses, hpwr, hsys, -⟩ := hview
  unfold Answered State.accepting at h ⊢
  simpa only [hdecode, hoffers, hchannels, htaken, hresponses, hpwr, hsys] using h

/-- A response on a state with the same view answers. -/
theorem respond_answered_of_view (i : InitId) (code : RespCode) (data : List Word) {s u : State} (hview : u.view = s.view)
    (hconfig : ∀ q, (u.queue q).config = (s.queue q).config := by exact fun _ => rfl) :
    Answered i code data s (respond i code data u) :=
  (respond_answered i code data u).of_view hview hconfig

theorem retireHead_view (s : State) : (retireHead s).view = s.view := by rw [retireHead_eq]; rfl
theorem appendRecord_view (s : State) (r : FaultRecord) : (s.appendRecord r).view = s.view := by
  rw [State.appendRecord_eq]; rfl
theorem appendRecord_queue (s : State) (r : FaultRecord) (q : QueueId) : (s.appendRecord r).queue q = s.queue q := by
  rw [State.appendRecord_eq]; rfl
theorem retireHead_queue (s : State) (q : QueueId) : (retireHead s).queue q = s.queue q := by rw [retireHead_eq]; rfl

/-- A FAULT response answers, with one record (R153, R159). -/
theorem respondFault_answered (kind : FaultKind) (i : InitId) (addr : Addr) (aperture : Option ApId)
    (queue : Option QueueId) (data : List Word) (s : State) :
    Answered i .fault data s (respondFault kind i addr aperture queue data s) :=
  respond_answered_of_view i .fault data (appendRecord_view s _) fun q => by rw [State.record, appendRecord_queue]

/-! ### Requests found -/

theorem Performing.performing {s : State} {i : InitId} {r : Request} {d : Decoded} (h : Performing s i r d) :
    s.performing i = some { req := r, decoded := d } := by
  obtain ⟨htaken, hhead⟩ := h
  rw [State.performing, if_pos htaken]
  exact hhead

theorem Acknowledges.ackLive {s : State} {m : MemReq} {beats : List MemBeat} (h : Acknowledges s m beats) :
    s.ackLive beats = some m := by
  obtain ⟨hhead, hlive, hlength⟩ := h
  cases hout : s.outstanding with
  | nil => rw [hout] at hhead; cases hhead
  | cons r rest =>
    rw [hout, List.head?_cons, Option.some.injEq] at hhead
    subst hhead
    simp [State.ackLive, State.acknowledged, hout, hlength, hlive]

/-! ### Acceptance and refusal -/

theorem request_wf_iff (r : Request) : r.wf = true ↔ 1 ≤ r.body.count ∧ r.body.count ≤ 16 := by
  rw [Request.wf, Bool.and_eq_true, decide_eq_true_eq, decide_eq_true_eq]
  rfl

/-- The SP takes the oldest waiting offer where there is room (R157). -/
theorem acceptOffer_cons {s : State} {i : InitId} {first : Request} {rest : List Request}
    (hoffers : s.offers[i] = first :: rest) (hpwr : s.pwrReset = false) (hsys : s.sysReset = false)
    (hroom : s.channels[i].length < 4) :
    acceptOffer i s = { s with offers := s.offers.set i rest,
                               channels := s.channels.set i
                                 (s.channels[i] ++ [{ req := first, decoded := decodeRequest s i first }]) } := by
  have haccept : (s.accepting && decide (s.channels[i].length < Config.channelDepth)) = true := by
    rw [State.accepting, hpwr, hsys]
    exact decide_eq_true hroom
  rw [acceptOffer, if_pos haccept, hoffers]

/-- Without room, or during a reset, an offer waits (R157, R166). -/
theorem acceptOffer_waits {s : State} {i : InitId}
    (h : s.pwrReset = true ∨ s.sysReset = true ∨ 4 ≤ s.channels[i].length) : acceptOffer i s = s := by
  refine if_neg fun haccept => ?_
  simp only [State.accepting, Bool.and_eq_true, Bool.not_eq_true', decide_eq_true_eq] at haccept
  obtain ⟨⟨hpwr, hsys⟩, hroom⟩ := haccept
  obtain h | h | h := h
  · rw [hpwr] at h; cases h
  · rw [hsys] at h; cases h
  · exact absurd hroom (Nat.not_lt.mpr h)

/-- Settles O26. -/
theorem requestAccepted : Obligations.RequestAccepted := by
  have hoffer (s : State) (i : InitId) (r : Request) (hwf : r.wf = true) :
      exec (.requestAccept i (some r)) s = .next (acceptOffer i (offerRequest i r s)) := if_pos hwf
  have hself (s : State) (i : InitId) (r : Request) : (offerRequest i r s).offers[i] = s.offers[i] ++ [r] := by
    rw [offerRequest, getElem_set_place, if_pos rfl]
  refine ⟨request_wf_iff, fun s i r first rest hwf hoffers hpwr hsys hroom => ?_, fun s i r hwf hwait => ?_,
    fun s i first rest hoffers hpwr hsys hroom => congrArg _ (acceptOffer_cons hoffers hpwr hsys hroom)⟩
  · rw [hoffer s i r hwf, acceptOffer_cons ((hself s i r).trans hoffers) hpwr hsys hroom]
    simp only [offerRequest, Vector.set_set]
    rfl
  · rw [hoffer s i r hwf, acceptOffer_waits (s := offerRequest i r s) hwait]
    rfl

/-- Settles O29. -/
theorem refusalAnswered : Obligations.RefusalAnswered := by
  refine ⟨fun n w => ⟨rfl, rfl, rfl, rfl⟩, fun bs w => ⟨rfl, rfl, rfl, rfl⟩, fun s i r kind k q hcurrent => ?_⟩
  refine ⟨_, ?_, (respondFault_answered kind i r.addr k q (r.body.fill 0#64) s).notify, ?_⟩
  · change execAdRefusalAnswer i s = _
    rw [execAdRefusalAnswer, hcurrent.current]
    rfl
  · exact congrArg State.notify (respondFault_eq kind i r.addr k q (r.body.fill 0#64) s)

/-! ### Pass-through -/

/-- Settles O30. -/
theorem passThroughPerformed : Obligations.PassThroughPerformed := by
  refine ⟨fun s i r hcurrent => ?_, fun s m beats i r d hack howner hperforming => ?_⟩
  · change execPassThrough i s = _
    rw [execPassThrough, hcurrent.current]
    rfl
  · obtain ⟨addr, body, owner, fate⟩ := m
    obtain rfl : owner = .passThrough i := howner
    have hanswer (data : List Word) := respond_answered_of_view i (if anyError beats then .fault else .ok) data
      (retireHead_view s) fun q => by rw [retireHead_queue]
    refine ⟨respond i (if anyError beats then .fault else .ok) (r.body.returnedOrZero beats) (retireHead s), ?_, ?_,
      respond_eq ..⟩
    · change execPassThroughAck beats s = _
      rw [execPassThroughAck, hack.ackLive]
      dsimp only
      rw [hperforming.performing]
    · cases hbody : r.body with
      | read n => exact hanswer _
      | write bs => exact hanswer _

/-! ### Summary words -/

/-- A field of a word is a number when its bits are. -/
theorem field_eq_of_bits {w : Word} {place n v : Nat} (hv : v < 2 ^ n) (h : ∀ k < n, w.getLsbD (place + k) = v.testBit k) :
    field w place n = v := by
  refine Nat.eq_of_testBit_eq fun k => ?_
  rw [field, Nat.testBit_mod_two_pow, Nat.testBit_div_two_pow]
  by_cases hk : k < n
  · rw [decide_eq_true hk, Bool.true_and, Nat.add_comm, ← h k hk]
    rfl
  · rw [decide_eq_false hk, Bool.false_and]
    exact (Nat.testBit_lt_two_pow (lt_of_lt_of_le hv (Nat.pow_le_pow_right (by decide) (by omega)))).symm

theorem readySet_sorted (s : State) (reported : BitVec 16) : (s.readySet reported).Pairwise (· < ·) :=
  List.Pairwise.filter _ (by decide)

/-- A bit of the READY set of a summary word (R129). -/
theorem summaryWord_ready_bit (s : State) (reported : BitVec 16) (q : QueueId) :
    (s.summaryWord reported).getLsbD q.val = decide (q ∈ s.readySet reported) := by
  have hq := q.isLt
  have hlow : (lowestReady (s.readySet reported)).getLsbD q.val = false := by
    rw [getLsbD_lowestReady _ (by omega)]
    split
    · exact decide_eq_false (by omega)
    · rw [decide_eq_false (by omega), Bool.false_and]
  rw [getLsbD_summaryWord s reported (by omega), hlow, decide_eq_false (by omega : q.val ≠ 32), Bool.or_false, Bool.and_false,
    Bool.or_false]
  simp only [List.any_eq, decide_eq_decide, decide_eq_true_eq]
  exact ⟨fun ⟨p, hp, hqp⟩ => Fin.ext hqp ▸ hp, fun h => ⟨q, h, rfl⟩⟩

/-- The bits of a summary word above the READY set (section 13.5). -/
theorem summaryWord_high_bit (s : State) (reported : BitVec 16) {n : Nat} (hmin : 16 ≤ n) (hmax : n < 64) :
    (s.summaryWord reported).getLsbD n =
      ((lowestReady (s.readySet reported)).getLsbD n || (!s.log.isEmpty && decide (n = 32))) := by
  have hset : (s.readySet reported).any (fun q => decide (n = q.val)) = false :=
    List.any_eq_false.mpr fun q _ => by have := q.isLt; simp; omega
  rw [getLsbD_summaryWord s reported hmax, hset, Bool.false_or]

/-- The queue number in a summary word (R129). -/
theorem summaryWord_lowest (s : State) (reported : BitVec 16) :
    field (s.summaryWord reported) 16 4 = ((s.readySet reported).head?.map Fin.val).getD 0 := by
  refine field_eq_of_bits ?_ fun k hk => ?_
  · cases (s.readySet reported).head? with
    | none => decide
    | some q => exact q.isLt
  · rw [summaryWord_high_bit s reported (by omega) (by omega), getLsbD_lowestReady _ (by omega),
      decide_eq_false (by omega : 16 + k ≠ 32), Bool.and_false, Bool.or_false]
    cases s.readySet reported with
    | nil => simp; omega
    | cons q l => simp

/-- The none flag of a summary word (R129). -/
theorem summaryWord_none (s : State) (reported : BitVec 16) :
    (s.summaryWord reported).getLsbD 24 = true ↔ s.readySet reported = [] := by
  rw [summaryWord_high_bit s reported (by decide) (by decide), getLsbD_lowestReady _ (by decide)]
  cases s.readySet reported with
  | nil => simp
  | cons q l => simp [testBit_queue]

/-- Settles O31. -/
theorem summaryAnswered : Obligations.SummaryAnswered := by
  intro s i r reported k hcurrent
  have hready (q : QueueId) : (s.summaryWord reported).getLsbD q.val = (reported.getLsbD q.val && s.flags[q].ready) := by
    rw [summaryWord_ready_bit, Bool.eq_iff_iff, decide_eq_true_eq, State.readySet, List.mem_filter]
    simp [mem_upTo16]
  refine ⟨respond i .ok (r.body.fill (s.summaryWord reported)) s, s.summaryWord reported, ?_, respond_answered .., respond_eq ..,
    hready, fun q hq hlower => ?_, ?_, fun hnone => ?_, ?_, fun n hmin h24 h32 => ?_⟩
  · change execSummaryRead i s = _
    rw [execSummaryRead, hcurrent.current]
  · simp only [summaryWord_ready_bit, decide_eq_true_eq, decide_eq_false_iff_not] at hq hlower
    have hsorted := readySet_sorted s reported
    rw [summaryWord_lowest]
    cases hset : s.readySet reported with
    | nil => rw [hset] at hq; cases hq
    | cons p l =>
      rw [hset] at hq hlower hsorted
      obtain rfl | hq := List.mem_cons.mp hq
      · rfl
      · exact absurd List.mem_cons_self (hlower p (List.rel_of_pairwise_cons hsorted hq))
  · rw [summaryWord_none, List.eq_nil_iff_forall_not_mem]
    simp only [summaryWord_ready_bit, decide_eq_false_iff_not]
  · rw [summaryWord_lowest, (summaryWord_none s reported).mp hnone]
    rfl
  · rw [summaryWord_fault_bit, Bool.not_eq_true', List.isEmpty_eq_false_iff]
  · by_cases hn : n < 64
    · rw [summaryWord_high_bit s reported (by omega) hn, getLsbD_lowestReady _ hn, decide_eq_false h32, Bool.and_false,
        Bool.or_false]
      split
      · exact decide_eq_false h24
      · rw [testBit_queue _ (by omega), Bool.and_false]
    · exact BitVec.getLsbD_of_ge _ _ (by omega)

/-! ### Merge arithmetic -/

/-- A bit of the ones of byte b. -/
theorem getLsbD_byteOnes (b n : Nat) : (0xFF#64 <<< (8 * b)).getLsbD n = (decide (n < 64) && decide (n / 8 = b)) := by
  have hones (k : Nat) : (0xFF#64).getLsbD k = decide (k < 8) := by
    rw [BitVec.getLsbD_ofNat]
    exact (congrArg _ (Nat.testBit_two_pow_sub_one 8 k)).trans (by rw [← Bool.decide_and, decide_eq_decide]; omega)
  rw [BitVec.getLsbD_shiftLeft, hones, Bool.and_assoc, ← Bool.decide_and, ← decide_not, ← Bool.decide_and, ← Bool.decide_and,
    decide_eq_decide]
  omega

/-- A bit of the mask that the strobes give (R135). -/
theorem getLsbD_strobeMask (strobes : Byte) {n : Nat} (hn : n < 64) : (strobeMask strobes).getLsbD n = strobes.getLsbD (n / 8) := by
  have hfold (l : List Nat) (m : Word) : (l.foldl (fun m b => if strobes.getLsbD b then m ||| (0xFF#64 <<< (8 * b)) else m)
      m).getLsbD n = (m.getLsbD n || l.any fun b => strobes.getLsbD b && decide (n / 8 = b)) := by
    induction l generalizing m with
    | nil => simp
    | cons b l ih =>
      rw [List.foldl_cons, ih, List.any_cons, ← Bool.or_assoc]
      congr 1
      split
      next hb => rw [BitVec.getLsbD_or, hb, getLsbD_byteOnes, decide_eq_true hn, Bool.true_and]
      next hb => simp [hb]
  rw [strobeMask, hfold, BitVec.getLsbD_zero, Bool.false_or, Bool.eq_iff_iff, List.any_eq_true]
  simp only [List.mem_range, Bool.and_eq_true, decide_eq_true_eq]
  exact ⟨fun ⟨b, _, hb, hn⟩ => hn ▸ hb, fun h => ⟨n / 8, by omega, h, rfl⟩⟩

theorem getLsbD_effectiveMask (p : Word) (strobes : Byte) (n : Nat) :
    (effectiveMask p strobes).getLsbD n = (p.getLsbD n && strobes.getLsbD (n / 8)) := by
  rw [effectiveMask, BitVec.getLsbD_and]
  by_cases hn : n < 64
  · rw [getLsbD_strobeMask strobes hn]
  · rw [BitVec.getLsbD_of_ge p n (by omega), Bool.false_and, Bool.false_and]

/-- A word that takes its masked bits from one word and the others from another. -/
theorem getLsbD_masked (a b m : Word) {n : Nat} (hn : n < 64) :
    ((a &&& m) ||| (b &&& ~~~m)).getLsbD n = if m.getLsbD n then a.getLsbD n else b.getLsbD n := by
  simp only [BitVec.getLsbD_or, BitVec.getLsbD_and, BitVec.getLsbD_not, hn, decide_true, Bool.true_and]
  cases m.getLsbD n <;> simp

theorem condHolds_iff (l : Latch) (word : Addr) (o : Word) :
    condHolds l word o = true ↔ l.valid = true ∧ l.addr = word ∧ l.value = o := by
  simp [condHolds, and_assoc]

/-- Settles O50. -/
theorem mergeValues : Obligations.MergeValues := by
  refine ⟨getLsbD_effectiveMask, fun o d m n hn => ⟨?_, ?_, ?_, getLsbD_masked _ _ _ hn, getLsbD_masked _ _ _ hn⟩,
    condHolds_iff⟩
  · rw [mergeValue, BitVec.getLsbD_or, BitVec.getLsbD_and]
  · rw [mergeValue, BitVec.getLsbD_and, BitVec.getLsbD_not, BitVec.getLsbD_and, decide_eq_true hn, Bool.true_and]
  · rw [mergeValue, BitVec.getLsbD_xor, BitVec.getLsbD_and]

end Sys2Proof.Machine
end

section
/-! PROOF. The control page's reads, and the requests of merge apertures (sections 7.6 and 8.2 to 8.5). -/

namespace Sys2Proof.Machine

/-! ### Words made of fields (section 13.5) -/

theorem bitAt_eq_fieldAt (b : Bool) (place : Nat) : bitAt b place = fieldAt b.toNat place := by
  cases b
  · simp [bitAt, fieldAt]
  · rfl

/-- A field above a word's bits adds its value. -/
theorem toNat_or_fieldAt {w : Word} {v place : Nat} (hw : w.toNat < 2 ^ place) (hv : 2 ^ place * v < 2 ^ 64) :
    (w ||| fieldAt v place).toNat = w.toNat + 2 ^ place * v := by
  have hfield : (fieldAt v place).toNat = v <<< place := by
    have hmul : v <<< place = 2 ^ place * v := by rw [Nat.shiftLeft_eq, Nat.mul_comm]
    have hlt : v < 2 ^ 64 := lt_of_le_of_lt (Nat.le_mul_of_pos_left v (Nat.two_pow_pos place)) hv
    rw [fieldAt, BitVec.toNat_shiftLeft, BitVec.toNat_ofNat, Nat.mod_eq_of_lt hlt, Nat.mod_eq_of_lt (hmul ▸ hv)]
  rw [BitVec.toNat_or, hfield, Nat.or_comm, ← Nat.shiftLeft_add_eq_or_of_lt hw, Nat.shiftLeft_eq, Nat.mul_comm, Nat.add_comm]

theorem toNat_fieldAt_zero {v : Nat} (hv : v < 2 ^ 64) : (fieldAt v 0).toNat = v := by
  rw [fieldAt, BitVec.shiftLeft_zero, BitVec.toNat_ofNat, Nat.mod_eq_of_lt hv]

theorem code_le (x : QueueState) : x.code ≤ 2 := by
  cases x with
  | rest r => cases r <;> decide
  | flushing r => exact le_rfl

theorem toNat_statusWord {s : State} {q : QueueId} (havailable : s.available q < 2048) (htaken : s.takenCount q < 32)
    (hopen : (s.queue q).openCount < 32) : (s.statusWord q).toNat =
      (s.queue q).state.code + 2 ^ 7 * (decide (0 < s.available q)).toNat + 2 ^ 16 * s.available q +
        2 ^ 32 * s.takenCount q + 2 ^ 40 * (s.queue q).openCount := by
  have hcode := code_le (s.queue q).state
  have hready := Bool.toNat_le (decide (0 < s.available q))
  unfold State.statusWord
  rw [bitAt_eq_fieldAt]
  generalize (s.queue q).state.code = code at hcode ⊢
  generalize (decide (0 < s.available q)).toNat = ready at hready ⊢
  have h0 : (fieldAt code 0).toNat = code := toNat_fieldAt_zero (by omega)
  have h1 := toNat_or_fieldAt (w := fieldAt code 0) (v := ready) (place := 7) (by omega) (by omega)
  have h2 := toNat_or_fieldAt (w := fieldAt code 0 ||| fieldAt ready 7) (v := s.available q) (place := 16) (by omega) (by omega)
  have h3 := toNat_or_fieldAt (w := fieldAt code 0 ||| fieldAt ready 7 ||| fieldAt (s.available q) 16) (v := s.takenCount q)
    (place := 32) (by omega) (by omega)
  rw [toNat_or_fieldAt (by omega) (by omega), h3, h2, h1, h0]

theorem toNat_tagWord {x : Cell} {seq : BitVec 16} (hseq : x.sequence = some seq) : x.tagWord.toNat =
    1 + 2 ^ 2 * x.complete.toNat + 2 ^ 3 * x.origin.isSome.toNat + 2 ^ 8 * ((x.origin.map Fin.val).getD 0) +
      2 ^ 16 * seq.toNat := by
  have hcomplete := Bool.toNat_le x.complete
  have horigin : ((x.origin.map Fin.val).getD 0) < 16 := by
    cases x.origin with
    | none => decide
    | some q => exact q.isLt
  have hsome := Bool.toNat_le x.origin.isSome
  have hseqlt := seq.isLt
  have hmatch : (match x.origin with
      | some q => q.val
      | none => 0) = (x.origin.map Fin.val).getD 0 := by cases x.origin <;> rfl
  have hword : x.tagWord = fieldAt 1 0 ||| fieldAt x.complete.toNat 2 ||| fieldAt x.origin.isSome.toNat 3 |||
      fieldAt ((x.origin.map Fin.val).getD 0) 8 ||| fieldAt seq.toNat 16 := by
    unfold Cell.tagWord
    rw [bitAt_eq_fieldAt, bitAt_eq_fieldAt, bitAt_eq_fieldAt, hseq]
    cases x.origin <;> rfl
  rw [hword]
  generalize (x.origin.map Fin.val).getD 0 = origin at horigin ⊢
  generalize x.complete.toNat = complete at hcomplete ⊢
  generalize x.origin.isSome.toNat = some at hsome ⊢
  have h0 : (fieldAt 1 0).toNat = 1 := rfl
  have h1 := toNat_or_fieldAt (w := fieldAt 1 0) (v := complete) (place := 2) (by omega) (by omega)
  have h2 := toNat_or_fieldAt (w := fieldAt 1 0 ||| fieldAt complete 2) (v := some) (place := 3) (by omega) (by omega)
  have h3 := toNat_or_fieldAt (w := fieldAt 1 0 ||| fieldAt complete 2 ||| fieldAt some 3) (v := origin) (place := 8)
    (by omega) (by omega)
  rw [toNat_or_fieldAt (by omega) (by omega), h3, h2, h1, h0]

theorem toNat_countsWord (s : State) (q : QueueId) :
    (s.countsWord q).toNat = (s.queue q).lost.toNat + 2 ^ 16 * (s.queue q).underrun.toNat := by
  have hlost := (s.queue q).lost.isLt
  have hunderrun := (s.queue q).underrun.isLt
  have h0 : (fieldAt (s.queue q).lost.toNat 0).toNat = (s.queue q).lost.toNat := toNat_fieldAt_zero (by omega)
  rw [State.countsWord, toNat_or_fieldAt (by omega) (by omega), h0]

theorem stickyNat_lt (f : EventSet) : f.stickyNat < 2 ^ 64 := by
  unfold EventSet.stickyNat
  have hbit (b : Bool) : b.toNat ≤ 1 := Bool.toNat_le b
  have := hbit f.lost; have := hbit f.underrun; have := hbit f.watermark; have := hbit f.expired; have := hbit f.diverted
  omega

/-- Settles O49. -/
theorem controlPageRead : Obligations.ControlPageRead := by
  refine ⟨fun s i r a n hdrain hcurrent hwindow hbody => ?_, fun s i q => ⟨fun havailable htaken hopen => ?_, fun hnone => ?_,
    fun e b hbind hvoided => ?_, fun e b c seq hbind hactive hseq => ?_, toNat_fieldAt_zero (stickyNat_lt _),
    toNat_countsWord s q, fun w hw => ?_⟩⟩
  · obtain ⟨addr, body⟩ := r
    obtain rfl : body = .read n := hbody
    refine ⟨respond i .ok ((a.words n).map (s.controlWord i a.queue)) s, ?_, respond_eq .., ?_⟩
    · have hrequest : s.windowRequest .control i = some ({ addr := addr, body := .read n }, a) := by
        simp [State.windowRequest, hdrain, hcurrent.current, hwindow]
      change execControlPageRead i s = _
      rw [execControlPageRead, hrequest]
    · have hanswer := respond_answered i .ok ((a.words n).map (s.controlWord i a.queue)) s
      rw [QueueAccess.words, List.map_map] at hanswer ⊢
      exact hanswer
  · have hready : 2 ^ 7 * (decide (0 < s.available q)).toNat = if 0 < s.available q then 2 ^ 7 else 0 := by
      by_cases h : 0 < s.available q <;> simp [h]
    rw [State.controlWord, toNat_statusWord havailable htaken hopen, hready]
    cases (s.queue q).state with
    | rest r => cases r <;> rfl
    | flushing r => rfl
  · simp only [State.controlWord, State.tagWord, hnone]
  · simp only [State.controlWord, State.tagWord, hbind, hvoided]
    rfl
  · simp only [State.controlWord, State.tagWord, hbind, hactive]
    rw [toNat_tagWord hseq]
    cases (s.cell c).origin with
    | none => cases (s.cell c).complete <;> simp
    | some o => cases (s.cell c).complete <;> simp <;> omega
  · obtain rfl | rfl | hw := hw
    · rfl
    · rfl
    · obtain ⟨n, rfl⟩ := Nat.exists_eq_add_of_le' hw
      rfl

/-! ### Merge requests found -/

theorem Current.mergeRequest {s : State} {i : InitId} {r : Request} {op : MergeOp} {mask : Word} {target : Addr} {k : ApId}
    (h : Current s i r (.merge op mask target k)) :
    s.mergeRequest i = some { req := r, op := op, mask := mask, target := target, aperture := k } := by
  rw [State.mergeRequest, h.current]
  rfl

theorem Performing.merging {s : State} {i : InitId} {r : Request} {op : MergeOp} {mask : Word} {target : Addr} {k : ApId}
    (h : Performing s i r (.merge op mask target k)) :
    s.merging i = some { req := r, op := op, mask := mask, target := target, aperture := k } := by
  rw [State.merging, h.performing]
  rfl

/-- The beat in progress of a merge write is found at its stage (R137). -/
theorem MergeAt.beatAt {s : State} {i : InitId} {m : MergeAccess} {j : Nat} {stage : BeatStage} (h : MergeAt s i m j stage) :
    s.beatAt i stage = some (m, j) := by
  obtain ⟨hperforming, hmerge⟩ := h
  simp only [State.beatAt, hperforming.merging, hmerge, if_true]

/-! ### Merge reads -/

/-- A FAULT response on a state with the same view answers. -/
theorem respondFault_answered_of_view (kind : FaultKind) (i : InitId) (addr : Addr) (aperture : Option ApId)
    (queue : Option QueueId) (data : List Word) {s u : State} (hview : u.view = s.view)
    (hconfig : ∀ q, (u.queue q).config = (s.queue q).config := by exact fun _ => rfl) :
    Answered i .fault data s (respondFault kind i addr aperture queue data u) :=
  (respondFault_answered kind i addr aperture queue data u).of_view hview hconfig

theorem State.port_notify (s t : State) : s.port t.notify = s.port t := rfl

theorem retireHead_config (s : State) (q : QueueId) : ((retireHead s).queue q).config = (s.queue q).config := by
  rw [retireHead_queue]

/-- The acknowledgement of a merge read, by whether memory returned an error (R133). -/
theorem exec_mergeReadAck {s : State} {m : MemReq} {beats : List MemBeat} {last : MemBeat} {i : InitId} {r : Request}
    {op : MergeOp} {mask : Word} {target : Addr} {k : ApId} (hack : Acknowledges s m beats) (howner : m.owner = .mergeRead i)
    (hperforming : Performing s i r (.merge op mask target k)) (hlast : beats.getLast? = some last) :
    exec (.mergeReadAck beats) s =
      if anyError beats then
        finish (mergeFault .memory i { req := r, op := op, mask := mask, target := target, aperture := k } (retireHead s))
      else finish (respond i .ok (r.body.returned beats)
        ((retireHead s).setLatch i { valid := true, addr := beatAddr target (beats.length - 1), value := last.data })) := by
  obtain ⟨addr, body, owner, fate⟩ := m
  obtain rfl : owner = .mergeRead i := howner
  change execMergeReadAck beats s = _
  rw [execMergeReadAck, hack.ackLive]
  dsimp only
  rw [hperforming.merging, hlast]

theorem Body.returned_read {b : Body} (h : b.isWrite = false) (beats : List MemBeat) :
    b.returned beats = beats.map MemBeat.data := by
  cases b with
  | read n => rfl
  | write bs => cases h

theorem retireHead_latches (s : State) : (retireHead s).latches = s.latches := by rw [retireHead_eq]

theorem retireHead_faultRecord (s : State) (kind : FaultKind) (i : InitId) (addr : Addr) (k : Option ApId)
    (q : Option QueueId) : (retireHead s).faultRecord kind i addr k q = s.faultRecord kind i addr k q := by
  rw [retireHead_eq]
  rfl

/-- Settles O51. -/
theorem mergeReads : Obligations.MergeReads := by
  refine ⟨fun s i r op mask target k hcurrent hread => ?_,
    fun s m beats last i r op mask target k hack howner hperforming hread hlast => ⟨fun herror => ?_, fun herror => ?_⟩⟩
  · change execMergeRead i s = _
    rw [execMergeRead, hcurrent.mergeRequest]
    simp only [hread]
    rfl
  · have hanswer := respond_answered_of_view i .ok (beats.map MemBeat.data)
      (u := (retireHead s).setLatch i { valid := true, addr := beatAddr target (beats.length - 1), value := last.data })
      (retireHead_view s) (retireHead_config s)
    refine ⟨_, ?_, hanswer.notify, ?_⟩
    · rw [exec_mergeReadAck hack howner hperforming hlast, anyError, if_neg (ne_true_of_eq_false herror),
        Body.returned_read hread]
      rfl
    · refine (congrArg State.notify (respond_eq ..)).trans ?_
      rw [← retireHead_latches s, State.port_notify]
      rfl
  · have hanswer := respondFault_answered_of_view .memory i r.addr (some k) none (r.body.fill 0#64) (retireHead_view s)
      (retireHead_config s)
    refine ⟨_, ?_, hanswer.notify, ?_⟩
    · rw [exec_mergeReadAck hack howner hperforming hlast, anyError, if_pos herror]
      rfl
    · refine (congrArg State.notify (respondFault_eq ..)).trans ?_
      rw [retireHead_faultRecord, State.port_notify]

/-! ### The stages of a merge beat -/

theorem partialStrobes_iff (b : Body) : partialStrobes b = true ↔ ∃ x ∈ b.writeBeats, x.strobes ≠ 0xFF#8 := by
  cases b with
  | read n => simp [partialStrobes, Body.writeBeats]
  | write bs => simp [partialStrobes, Body.writeBeats]

/-- A latch made invalid after an answer (R136). -/
theorem invalidate_eq (i : InitId) (s : State) :
    invalidate i s = { s with latches := s.latches.set i { s.latches[i] with valid := false } } := rfl

theorem respondFault_latches (kind : FaultKind) (i : InitId) (addr : Addr) (aperture : Option ApId)
    (queue : Option QueueId) (data : List Word) (s : State) :
    (respondFault kind i addr aperture queue data s).latches = s.latches := by
  rw [respondFault_eq, State.appendRecord_eq]
  rfl

theorem respond_latches (i : InitId) (code : RespCode) (data : List Word) (s : State) :
    (respond i code data s).latches = s.latches := by
  rw [respond_eq]
  rfl

theorem State.port_invalidate (s t : State) (i : InitId) : s.port (invalidate i t) = s.port t := rfl

theorem Answered.invalidate {i j : InitId} {code : RespCode} {data : List Word} {s t : State}
    (h : Answered i code data s t) : Answered i code data s (invalidate j t) := h

/-- A refused merge request answers, makes its record, and loses its latch (R136). -/
theorem invalidate_respondFault (j : InitId) (kind : FaultKind) (i : InitId) (addr : Addr) (aperture : Option ApId)
    (queue : Option QueueId) (data : List Word) (s : State) :
    invalidate j (respondFault kind i addr aperture queue data s) =
      { (s.port (respondFault kind i addr aperture queue data s)).appendRecord (s.faultRecord kind i addr aperture queue) with
          latches := s.latches.set j { s.latches[j] with valid := false } } := by
  rw [invalidate_eq, respondFault_latches]
  exact congrArg (fun u : State => { u with latches := s.latches.set j { s.latches[j] with valid := false } })
    (respondFault_eq ..)

/-- Settles O52. -/
theorem mergeBeatBegins : Obligations.MergeBeatBegins := by
  refine ⟨fun s i r op mask target k hcurrent hwrite => ⟨fun hwhole => ?_, fun hadd hpartial => ?_⟩,
    fun s i m j hat => ⟨fun hmay => ?_, fun hmay => ?_⟩, fun s i m j hat => ⟨fun hquiet => ?_, fun hbusy => ?_⟩⟩
  · have hno : (decide (op = .add) && partialStrobes r.body) = false := by
      refine Bool.eq_false_iff.mpr fun h => ?_
      simp only [Bool.and_eq_true, decide_eq_true_eq, partialStrobes_iff] at h
      obtain ⟨hop, x, hx, hne⟩ := h
      exact hwhole.elim (fun h => h hop) fun h => hne (h x hx)
    change execMergeWrite i s = _
    rw [execMergeWrite, hcurrent.mergeRequest]
    dsimp only
    rw [if_pos hwrite, if_neg (ne_true_of_eq_false hno)]
    rfl
  · have hyes : (decide (op = .add) && partialStrobes r.body) = true := by
      rw [decide_eq_true hadd, (partialStrobes_iff _).mpr hpartial]
      rfl
    have hfill : r.body.fill 0#64 = [] := by
      cases hbody : r.body with
      | read n => rw [hbody] at hwrite; cases hwrite
      | write bs => rfl
    have hanswer : Answered i .fault [] s (invalidate i (respondFault .addPartial i r.addr (some k) none [] s)) :=
      (respondFault_answered .addPartial i r.addr (some k) none [] s).invalidate
    refine ⟨_, ?_, hanswer.notify, ?_⟩
    · change execMergeWrite i s = _
      rw [execMergeWrite, hcurrent.mergeRequest]
      dsimp only
      rw [if_pos hwrite, if_pos hyes, mergeFault, hfill]
      rfl
    · rw [State.port_notify, State.port_invalidate]
      exact congrArg State.notify (invalidate_respondFault ..)
  · change execMergeBeatLock i s = _
    rw [execMergeBeatLock, hat.beatAt]
    refine (if_pos hmay).trans ?_
    rw [takeLock, hat.2]
    rfl
  · change execMergeBeatLock i s = _
    rw [execMergeBeatLock, hat.beatAt]
    refine (if_neg (ne_true_of_eq_false hmay)).trans ?_
    rw [setStage, hat.2]
    rfl
  · change execMergeBeatReadIssue i s = _
    rw [execMergeBeatReadIssue, hat.beatAt]
    refine (if_pos ?_).trans ?_
    · refine List.all_eq_true.mpr fun x hx => ?_
      simp only [MemReq.touches, MemReq.count, beatAddr, hquiet x hx]
      rfl
    · rw [setStage, hat.2]
      rfl
  · change execMergeBeatReadIssue i s = _
    rw [execMergeBeatReadIssue, hat.beatAt]
    refine if_neg fun h => ?_
    obtain ⟨x, hx, hshare⟩ := hbusy
    have := List.all_eq_true.mp h x hx
    simp only [MemReq.touches, MemReq.count, beatAddr, hshare] at this
    cases this

/-! ### The end of a merge beat -/

theorem retireHead_merges (s : State) : (retireHead s).merges = s.merges := by rw [retireHead_eq]

theorem endMerge_retireHead (i : InitId) (s : State) :
    endMerge i (retireHead s) = releaseLock i { retireHead s with merges := s.merges.set i none } := by
  rw [endMerge, State.setMerge, retireHead_merges]

/-- What the answers of an ended merge write read is that of the state before its acknowledgement. -/
theorem endMerge_retireHead_reads (i : InitId) (s : State) :
    (endMerge i (retireHead s)).view = s.view ∧ (endMerge i (retireHead s)).queues = s.queues ∧
      (endMerge i (retireHead s)).latches = s.latches ∧ (endMerge i (retireHead s)).tickCount = s.tickCount := by
  rw [endMerge, releaseLock_eq, retireHead_eq]
  exact ⟨rfl, rfl, rfl, rfl⟩

theorem Body.fill_write {b : Body} (h : b.isWrite = true) (x : Word) : b.fill x = [] := by
  cases b with
  | read n => cases h
  | write bs => rfl

theorem State.faultRecord_congr {s u : State} (h : u.tickCount = s.tickCount) (kind : FaultKind) (i : InitId) (addr : Addr)
    (k : Option ApId) (q : Option QueueId) : u.faultRecord kind i addr k q = s.faultRecord kind i addr k q := by
  rw [State.faultRecord, h]
  rfl

section
variable {s : State} {i : InitId}

/-- An ended merge write is answered (R134, R136). -/
theorem endMerge_respond_answered (code : RespCode) :
    Answered i code [] s (invalidate i (respond i code [] (endMerge i (retireHead s)))).notify := by
  obtain ⟨hview, hqueues, hlatches, htick⟩ := endMerge_retireHead_reads i s
  have hanswer := respond_answered_of_view i code [] hview (fun q => by rw [State.queue, hqueues]; rfl)
  exact hanswer.invalidate.notify

theorem endMerge_respond_eq (code : RespCode) :
    (invalidate i (respond i code [] (endMerge i (retireHead s)))).notify =
      ({ (endMerge i (retireHead s)).port (invalidate i (respond i code [] (endMerge i (retireHead s)))).notify with
          latches := s.latches.set i { s.latches[i] with valid := false } } : State).notify := by
  obtain ⟨hview, hqueues, hlatches, htick⟩ := endMerge_retireHead_reads i s
  rw [State.port_notify, State.port_invalidate]
  refine congrArg State.notify ?_
  rw [invalidate_eq, respond_latches, hlatches]
  exact congrArg (fun u : State => { u with latches := s.latches.set i { s.latches[i] with valid := false } }) (respond_eq ..)

/-- An ended merge write is refused (R140). -/
theorem endMerge_fault_answered {m : MergeAccess} (hwrite : m.req.body.isWrite = true) :
    Answered i .fault [] s (mergeFault .memory i m (endMerge i (retireHead s))) := by
  obtain ⟨hview, hqueues, hlatches, htick⟩ := endMerge_retireHead_reads i s
  have hanswer := respondFault_answered_of_view .memory i m.req.addr (some m.aperture) none [] hview
    (fun q => by rw [State.queue, hqueues]; rfl)
  rwa [mergeFault, Body.fill_write hwrite]

theorem endMerge_fault_eq {m : MergeAccess} :
    mergeFault .memory i m (endMerge i (retireHead s)) =
      { ((endMerge i (retireHead s)).port (mergeFault .memory i m (endMerge i (retireHead s)))).appendRecord
          (s.faultRecord .memory i m.req.addr (some m.aperture) none) with latches := s.latches } := by
  obtain ⟨hview, hqueues, hlatches, htick⟩ := endMerge_retireHead_reads i s
  rw [mergeFault, ← State.faultRecord_congr htick, ← hlatches]
  refine (respondFault_eq ..).trans ?_
  rw [State.appendRecord_eq]
  rfl

theorem endMerge_fault_invalidate_answered {m : MergeAccess} (hwrite : m.req.body.isWrite = true) :
    Answered i .fault [] s (invalidate i (mergeFault .memory i m (endMerge i (retireHead s)))) :=
  (endMerge_fault_answered hwrite).invalidate

theorem endMerge_fault_invalidate_eq {m : MergeAccess} :
    invalidate i (mergeFault .memory i m (endMerge i (retireHead s))) =
      { ((endMerge i (retireHead s)).port (mergeFault .memory i m (endMerge i (retireHead s)))).appendRecord
          (s.faultRecord .memory i m.req.addr (some m.aperture) none) with
          latches := s.latches.set i { s.latches[i] with valid := false } } := by
  obtain ⟨hview, hqueues, hlatches, htick⟩ := endMerge_retireHead_reads i s
  rw [mergeFault, ← State.faultRecord_congr htick, ← hlatches]
  exact invalidate_respondFault ..

end

/-- The acknowledgement of a merge beat's read, by what memory returned (R137, R140). -/
theorem exec_mergeBeatReadAck {s : State} {x : MemReq} {b : MemBeat} {i : InitId} {m : MergeAccess} {j : Nat}
    (hack : Acknowledges s x [b]) (howner : x.owner = .beatRead i) (hat : MergeAt s i m j .reading) :
    exec (.mergeBeatReadAck [b]) s =
      if b.error then
        finish (if j = 0 then mergeFault .memory i m (endMerge i (retireHead s))
          else invalidate i (mergeFault .memory i m (endMerge i (retireHead s))))
      else finish (beatComputed i m j b.data (retireHead s)) := by
  obtain ⟨addr, body, owner, fate⟩ := x
  obtain rfl : owner = .beatRead i := howner
  change execMergeBeatReadAck [b] s = _
  rw [execMergeBeatReadAck, hack.ackLive]
  dsimp only
  rw [hat.beatAt]

/-- The acknowledgement of a merge beat's write (R137, R140, R141). -/
theorem exec_mergeBeatWriteAck {s : State} {x : MemReq} {beats : List MemBeat} {i : InitId} {m : MergeAccess} {j : Nat}
    (hack : Acknowledges s x beats) (howner : x.owner = .beatWrite i) (hat : MergeAt s i m j .writing) :
    exec (.mergeBeatWriteAck beats) s =
      if anyError beats then finish (invalidate i (mergeFault .memory i m (endMerge i (retireHead s))))
      else if j + 1 < m.req.body.count then
        .next ((endMerge i (retireHead s)).setMerge i (some { beat := j + 1, stage := .arriving }))
      else finish (invalidate i (respond i .ok [] (endMerge i (retireHead s)))) := by
  obtain ⟨addr, body, owner, fate⟩ := x
  obtain rfl : owner = .beatWrite i := howner
  change execMergeBeatWriteAck beats s = _
  rw [execMergeBeatWriteAck, hack.ackLive]
  dsimp only
  rw [hat.beatAt]

/-- Settles O53. -/
theorem mergeBeatEnds : Obligations.MergeBeatEnds := by
  refine ⟨fun bs j h => ?_, fun s x b i m j hack howner hat hwrite => ?_, fun s x beats i m j hack howner hat hwrite => ?_⟩
  · simp [Body.beat, h]
  · rw [exec_mergeBeatReadAck hack howner hat, ← endMerge_retireHead]
    refine ⟨fun herror hpass => ?_, fun herror hop hfail => ?_, fun herror => ?_⟩
    · have hgo : (decide (m.op = .cond) && !condHolds (retireHead s).latches[i] (beatAddr m.target j) b.data) = false := by
        rw [retireHead_latches]
        refine Bool.eq_false_iff.mpr fun h => ?_
        simp only [Bool.and_eq_true, decide_eq_true_eq, Bool.not_eq_true'] at h
        exact hpass.elim (fun hne => hne h.1) fun hhold => Bool.false_ne_true (h.2.symm.trans hhold)
      rw [if_neg (ne_true_of_eq_false herror), beatComputed]
      dsimp only
      rw [if_neg (ne_true_of_eq_false hgo), lockWriting, setStage, State.setMerge, retireHead_merges, hat.2]
      rw [show (retireHead s).locks = s.locks by rw [retireHead_eq]]
      rfl
    · have hend : (decide (m.op = .cond) && !condHolds (retireHead s).latches[i] (beatAddr m.target j) b.data) = true := by
        rw [retireHead_latches, decide_eq_true hop]
        exact congrArg (! ·) hfail
      refine ⟨_, ?_, endMerge_respond_answered .fail, endMerge_respond_eq .fail⟩
      rw [if_neg (ne_true_of_eq_false herror), beatComputed, if_pos hend]
      rfl
    · rw [if_pos herror]
      by_cases hj : j = 0
      · simp only [hj, if_true]
        refine ⟨(mergeFault .memory i m (endMerge i (retireHead s))).notify, rfl, (endMerge_fault_answered hwrite).notify, ?_⟩
        rw [State.port_notify]
        exact congrArg State.notify endMerge_fault_eq
      · simp only [hj, if_false]
        refine ⟨(invalidate i (mergeFault .memory i m (endMerge i (retireHead s)))).notify, rfl,
          (endMerge_fault_invalidate_answered hwrite).notify, ?_⟩
        rw [State.port_notify, State.port_invalidate]
        exact congrArg State.notify endMerge_fault_invalidate_eq
  · rw [exec_mergeBeatWriteAck hack howner hat, ← endMerge_retireHead]
    refine ⟨fun herror hmore => ?_, fun herror hlast => ?_, fun herror => ?_⟩
    · rw [anyError, if_neg (ne_true_of_eq_false herror), if_pos hmore]
      rfl
    · rw [anyError, if_neg (ne_true_of_eq_false herror), if_neg (Nat.not_lt.mpr hlast)]
      exact ⟨_, rfl, endMerge_respond_answered .ok, endMerge_respond_eq .ok⟩
    · rw [anyError, if_pos herror]
      refine ⟨(invalidate i (mergeFault .memory i m (endMerge i (retireHead s)))).notify, rfl,
        (endMerge_fault_invalidate_answered hwrite).notify, ?_⟩
      rw [State.port_notify, State.port_invalidate]
      exact congrArg State.notify endMerge_fault_invalidate_eq

end Sys2Proof.Machine
end

section
/-! PROOF. The frames of the management link: their bytes and bits, and the events of a frame (sections 11.1 and 13.1). -/

namespace Sys2Proof.Machine

/-! ### Bytes and bits (R168) -/

/-- The bits of one byte, most significant first. -/
def byteBits (b : Byte) : List Bool := (List.range 8).map (fun k => b.getLsbD (7 - k))

theorem bitsOf_cons (b : Byte) (bytes : List Byte) : bitsOf (b :: bytes) = byteBits b ++ bitsOf bytes := rfl

theorem length_byteBits (b : Byte) : (byteBits b).length = 8 := rfl

theorem length_bitsOf (bytes : List Byte) : (bitsOf bytes).length = 8 * bytes.length := by
  induction bytes with
  | nil => rfl
  | cons b bytes ih => rw [bitsOf_cons, List.length_append, ih, length_byteBits, List.length_cons]; omega

theorem toNat_getLsbD (b : Byte) (k : Nat) : (b.getLsbD k).toNat = b.toNat / 2 ^ k % 2 := by
  rw [BitVec.getLsbD, Nat.toNat_testBit]

/-- A bit below the bits above it. -/
theorem two_mul_add_getLsbD (b : Byte) (k : Nat) : 2 * (b.toNat / 2 ^ (k + 1)) + (b.getLsbD k).toNat = b.toNat / 2 ^ k := by
  rw [toNat_getLsbD, Nat.pow_succ, ← Nat.div_div_eq_div_mul]
  exact Nat.div_add_mod _ 2

theorem byteOfBits_byteBits (b : Byte) : byteOfBits (byteBits b) = b := by
  have hfold : (byteBits b).foldl (fun n b => 2 * n + b.toNat) (b.toNat / 2 ^ 8) = b.toNat := by
    change 2 * (2 * (2 * (2 * (2 * (2 * (2 * (2 * (b.toNat / 2 ^ (7 + 1)) + (b.getLsbD 7).toNat) + (b.getLsbD 6).toNat) +
      (b.getLsbD 5).toNat) + (b.getLsbD 4).toNat) + (b.getLsbD 3).toNat) + (b.getLsbD 2).toNat) + (b.getLsbD 1).toNat) +
      (b.getLsbD 0).toNat = _
    rw [two_mul_add_getLsbD, two_mul_add_getLsbD, two_mul_add_getLsbD, two_mul_add_getLsbD, two_mul_add_getLsbD,
      two_mul_add_getLsbD, two_mul_add_getLsbD, two_mul_add_getLsbD, Nat.pow_zero, Nat.div_one]
  rw [Nat.div_eq_of_lt b.isLt] at hfold
  rw [byteOfBits, hfold, BitVec.ofNat_toNat, BitVec.setWidth_eq]

/-- What a frame sends bit by bit is received byte by byte. -/
theorem bytesOfBits_bitsOf (bytes : List Byte) : bytesOfBits bytes.length (bitsOf bytes) = bytes := by
  induction bytes with
  | nil => rfl
  | cons b bytes ih =>
    have hlength : ¬ (byteBits b ++ bitsOf bytes).length < 8 := by rw [List.length_append, length_byteBits]; omega
    rw [List.length_cons, bytesOfBits, bitsOf_cons, if_neg hlength, List.take_left' (length_byteBits b),
      List.drop_left' (length_byteBits b), byteOfBits_byteBits, ih]

/-! ### Fields of arguments (section 13.1) -/

theorem natOfBytes_bytesOfNat (n v : Nat) : natOfBytes (bytesOfNat n v) = v % 256 ^ n := by
  induction n generalizing v with
  | zero => simp [bytesOfNat, natOfBytes, Nat.mod_one]
  | succ n ih =>
    rw [bytesOfNat, natOfBytes, ih, BitVec.toNat_ofNat, show 2 ^ 8 = 256 from rfl, Nat.pow_succ', ← Nat.mod_mul]

/-- A field is read back as it was written. -/
theorem argField_eq {args : List Byte} {k n w : Nat} {v : BitVec w} (hbytes : (args.drop k).take n = bytesOf n v)
    (hw : w = 8 * n) : argField args k n w = v := by
  have hlt : v.toNat < 256 ^ n := by
    subst hw
    exact lt_of_lt_of_eq v.isLt (Nat.pow_mul 2 8 n)
  rw [argField, hbytes, bytesOf, natOfBytes_bytesOfNat, Nat.mod_eq_of_lt hlt, BitVec.ofNat_toNat, BitVec.setWidth_eq]

theorem argField_byte {args : List Byte} {k : Nat} {v : Byte} (hbyte : (args.drop k).take 1 = [v]) :
    argField args k 1 8 = v := by
  rw [argField, hbyte, natOfBytes, natOfBytes, Nat.mul_zero, Nat.add_zero, BitVec.ofNat_toNat, BitVec.setWidth_eq]

theorem imageOfArgs_imageBytes (e : Byte) (im : ApertureImage) : imageOfArgs (e :: imageBytes im) = im := by
  have hbase : argField (e :: imageBytes im) 1 5 40 = im.base := argField_eq rfl rfl
  have hreported : argField (e :: imageBytes im) 10 2 16 = im.reported := argField_eq rfl rfl
  have hmask : argField (e :: imageBytes im) 13 8 64 = im.mask := argField_eq rfl rfl
  have htarget : argField (e :: imageBytes im) 21 5 40 = im.targetBase := argField_eq rfl rfl
  have hsize : argField (e :: imageBytes im) 6 1 8 = im.sizeExp := argField_byte rfl
  have hkind : argField (e :: imageBytes im) 7 1 8 = im.kind := argField_byte rfl
  have hpermitted : argField (e :: imageBytes im) 8 1 8 = im.permitted := argField_byte rfl
  have hqueue : argField (e :: imageBytes im) 9 1 8 = im.queue := argField_byte rfl
  have hop : argField (e :: imageBytes im) 12 1 8 = im.operation := argField_byte rfl
  rw [imageOfArgs, hbase, hreported, hmask, htarget, hsize, hkind, hpermitted, hqueue, hop]

theorem configOfArgs_configBytes (q : Byte) (im : ConfigImage) : configOfArgs (q :: configBytes im) = im := by
  have hlimit : argField (q :: configBytes im) 2 2 16 = im.limit := argField_eq rfl rfl
  have hpattern : argField (q :: configBytes im) 7 8 64 = im.emptyPattern := argField_eq rfl rfl
  have htake : argField (q :: configBytes im) 15 2 16 = im.takeWait := argField_eq rfl rfl
  have hput : argField (q :: configBytes im) 17 2 16 = im.putWait := argField_eq rfl rfl
  have hwatermark : argField (q :: configBytes im) 19 2 16 = im.watermark := argField_eq rfl rfl
  have hcell : argField (q :: configBytes im) 1 1 8 = im.cellLen := argField_byte rfl
  have hpolicy : argField (q :: configBytes im) 4 1 8 = im.policy := argField_byte rfl
  have hdivert : argField (q :: configBytes im) 5 1 8 = im.divertTarget := argField_byte rfl
  have hreport : argField (q :: configBytes im) 6 1 8 = im.report := argField_byte rfl
  have hline : argField (q :: configBytes im) 21 1 8 = im.line := argField_byte rfl
  have hevents : argField (q :: configBytes im) 22 1 8 = im.eventMask := argField_byte rfl
  rw [configOfArgs, hlimit, hpattern, htake, hput, hwatermark, hcell, hpolicy, hdivert, hreport, hline, hevents]

/-- The codes of the commands as numbers. -/
def codeNumbers : List Nat :=
  [0x01, 0x02, 0x10, 0x11, 0x12, 0x13, 0x20, 0x21, 0x22, 0x23, 0x24, 0x25, 0x26, 0x27, 0x30, 0x31, 0x32, 0x33, 0x34, 0x40, 0x41]

theorem unknownCode_iff {code : Byte} : unknownCode code = true ↔ code.toNat ∉ codeNumbers := by
  have hcodes : codeNumbers = commandCodes.map BitVec.toNat := rfl
  have hmem : code.toNat ∈ codeNumbers ↔ code ∈ commandCodes := by
    rw [hcodes, List.mem_map_of_injective fun _ _ => BitVec.eq_of_toNat_eq]
  rw [hmem, unknownCode, Bool.not_eq_true', ← Bool.not_eq_true, List.contains_iff_mem]

theorem argumentBytes_eq_none {code : Byte} (h : code.toNat ∉ codeNumbers) : argumentBytes code = none := by
  unfold argumentBytes
  generalize code.toNat = n at h ⊢
  split
  case h_22 => rfl
  all_goals exact absurd (by decide) h

theorem commandOf_eq_unknown {code : Byte} (h : code.toNat ∉ codeNumbers) : commandOf code [] = .unknownCommand code := by
  unfold commandOf
  dsimp only
  generalize code.toNat = n at h ⊢
  split
  case h_22 => rfl
  all_goals exact absurd (by decide) h

theorem argField_head (b : Byte) (args : List Byte) : argField (b :: args) 0 1 8 = b := argField_byte rfl

/-- The bytes of a frame spell its command (R168, R169). -/
theorem decodeFrame_encodeFrame {c : Instr} {bytes : List Byte} (hwf : c.wf = true) (hencode : encodeFrame c = some bytes) :
    decodeFrame bytes = some c := by
  cases c <;> cases hencode
  case identify | status | steerOn | steerOff | faultPeek | faultDrop => rfl
  case unknownCommand code =>
    have hnot := unknownCode_iff.mp hwf
    rw [decodeFrame, argumentBytes_eq_none hnot]
    exact congrArg some (commandOf_eq_unknown hnot)
  case apertureRead b => exact congrArg (fun b => some (Instr.apertureRead b)) (argField_head b [])
  case apertureEnable b => exact congrArg (fun b => some (Instr.apertureEnable b)) (argField_head b [])
  case apertureDisable b => exact congrArg (fun b => some (Instr.apertureDisable b)) (argField_head b [])
  case queueConfigRead b => exact congrArg (fun b => some (Instr.queueConfigRead b)) (argField_head b [])
  case queueEnable b => exact congrArg (fun b => some (Instr.queueEnable b)) (argField_head b [])
  case queueDisable b => exact congrArg (fun b => some (Instr.queueDisable b)) (argField_head b [])
  case queueFlush b => exact congrArg (fun b => some (Instr.queueFlush b)) (argField_head b [])
  case queueStateRead b => exact congrArg (fun b => some (Instr.queueStateRead b)) (argField_head b [])
  case countersClear b => exact congrArg (fun b => some (Instr.countersClear b)) (argField_head b [])
  case lineConfig b => exact congrArg (fun b => some (Instr.lineConfig b)) (argField_head b [])
  case apertureWrite e im =>
    exact congrArg₂ (fun e im => some (Instr.apertureWrite e im)) (argField_head e _) (imageOfArgs_imageBytes e im)
  case queueConfigWrite q im =>
    exact congrArg₂ (fun q im => some (Instr.queueConfigWrite q im)) (argField_head q _) (configOfArgs_configBytes q im)
  case eventsClear q sel =>
    exact congrArg₂ (fun q sel => some (Instr.eventsClear q sel)) (argField_head q _) (argField_byte rfl)
  case tickConfig v => exact congrArg (fun v => some (Instr.tickConfig v)) (argField_eq (v := v) rfl rfl)
  case poolConfig base n g =>
    have hbase : argField (bytesOf 5 base ++ bytesOf 2 n ++ [g]) 0 5 40 = base := argField_eq rfl rfl
    have hcells : argField (bytesOf 5 base ++ bytesOf 2 n ++ [g]) 5 2 16 = n := argField_eq rfl rfl
    have hguard : argField (bytesOf 5 base ++ bytesOf 2 n ++ [g]) 7 1 8 = g := argField_byte rfl
    change some (Instr.poolConfig (argField (bytesOf 5 base ++ bytesOf 2 n ++ [g]) 0 5 40)
      (argField (bytesOf 5 base ++ bytesOf 2 n ++ [g]) 5 2 16) (argField (bytesOf 5 base ++ bytesOf 2 n ++ [g]) 7 1 8)) = _
    rw [hbase, hcells, hguard]

/-- Settles O14. -/
theorem frameRoundTrip : Obligations.FrameRoundTrip := by
  refine ⟨fun b sel g base n v im c => ⟨rfl, rfl, rfl, ?_, rfl, rfl, rfl, ?_, rfl, rfl, rfl, rfl, rfl, rfl, ?_, ?_, rfl, rfl,
    rfl, rfl, rfl, rfl⟩, fun c bytes hwf hencode => ?_⟩
  · simp only [encodeFrame, imageBytes, bytesOf_eq, List.cons_append, List.nil_append, List.append_assoc]
  · simp only [encodeFrame, configBytes, bytesOf_eq, List.cons_append, List.nil_append, List.append_assoc]
  · simp only [encodeFrame, bytesOf_eq, List.cons_append, List.nil_append, List.append_assoc]
  · simp only [encodeFrame, bytesOf_eq, List.cons_append, List.nil_append]
  · rw [bytesOfBits_bitsOf]
    exact decodeFrame_encodeFrame hwf hencode

/-! ### The events of a frame -/

/-- MDO carries the bits of what is left of the reply, then zero (R170). -/
theorem mdo_responding (left : List Byte) (n : Nat) : (Frame.responding left).mdo n = (bitsOf left).getD n false := by
  induction left generalizing n with
  | nil => simp [Frame.mdo, bitsOf]
  | cons b left ih =>
    rw [bitsOf_cons]
    obtain hlt | hge := Nat.lt_or_ge n 8
    · rw [List.getD_append _ _ _ _ (lt_of_lt_of_eq hlt (length_byteBits b).symm)]
      simp [Frame.mdo, byteBits, Nat.div_eq_of_lt hlt, Nat.mod_eq_of_lt hlt, hlt, List.getD_eq_getElem?_getD]
    · obtain ⟨m, rfl⟩ := Nat.exists_eq_add_of_le' hge
      rw [List.getD_append_right _ _ _ _ (le_of_eq_of_le (length_byteBits b) hge), length_byteBits, Nat.add_sub_cancel, ← ih]
      simp [Frame.mdo]

/-- The bits that clocks send (R168, R170). -/
theorem map_mdo_responding (left : List Byte) (n : Nat) :
    (List.range (8 * n)).map (Frame.responding left).mdo =
      bitsOf (left.take n) ++ List.replicate (8 * (n - left.length)) false := by
  refine List.ext_getElem ?_ fun k hk hk' => ?_
  · rw [List.length_map, List.length_range, List.length_append, length_bitsOf, List.length_take, List.length_replicate]
    omega
  · have hlt : k < 8 * n := by simpa using hk
    rw [List.getElem_map, List.getElem_range, mdo_responding, ← List.getD_eq_getElem _ false hk']
    have hsplit : bitsOf left = bitsOf (left.take n) ++ bitsOf (left.drop n) := by
      rw [bitsOf, bitsOf, bitsOf, ← List.flatMap_append, List.take_append_drop]
    have hlength := length_bitsOf (left.take n)
    rw [List.length_take] at hlength
    obtain hin | hout := Nat.lt_or_ge k (bitsOf (left.take n)).length
    · rw [hsplit, List.getD_append _ _ _ _ hin, List.getD_append _ _ _ _ hin]
    · have hshort : left.length ≤ n := by omega
      have hbits := length_bitsOf left
      rw [List.getD_append_right _ _ _ _ hout, List.getD_eq_default _ _ (by omega)]
      exact (List.getElem?_getD_replicate_default_eq _ _ _).symm

/-- A command of the link is its body with the answer of the link, or UNKNOWN_COMMAND; its frame has the bytes it takes
(R168). -/
theorem exec_of_encodeFrame {c : Instr} {bytes : List Byte} (hencode : encodeFrame c = some bytes) :
    (∃ code, c = .unknownCommand code ∧ bytes = [code]) ∨
      ∃ always code body, (∀ s, exec c s = carryOut always code body s) ∧ bytes.length = frameBytes code := by
  cases c <;> cases hencode
  case unknownCommand code => exact .inl ⟨code, rfl, rfl⟩
  all_goals exact .inr ⟨_, _, _, fun _ => rfl, rfl⟩

/-- Settles O15. -/
theorem frameEvents : Obligations.FrameEvents := by
  refine ⟨fun s hselect hreset => ?_, fun s hselect hreset => ?_, fun s hselect => ?_, fun s hframe c hc => ?_, fun n => rfl,
    fun s c bytes hframe hencode => ?_, fun s hframe => ⟨fun n => ?_, ?_, ?_, ?_⟩,
    fun s left hframe => ⟨fun n => ?_, ?_, fun hleft => ?_, fun hleft => ?_, ?_⟩,
    fun s left bytes c hframe hwf hencode => ?_, fun s code hframe hcode => ?_⟩
  · change execFrameStart s = _
    rw [execFrameStart, hselect, hreset]
    rfl
  · change execFrameStart s = _
    rw [execFrameStart, hselect, hreset]
    rfl
  · change execFrameStart s = _
    rw [execFrameStart, hselect]
    rfl
  · have hrelease : s.releaseSelect = { s with select := false } := by rw [State.releaseSelect, ← hframe]
    rw [← hrelease]
    fin_cases hc
    · change execFrameEnd s = _
      rw [execFrameEnd, hframe]
    · change execFrameAbort s = _
      rw [execFrameAbort, hframe]
    · change execResponseCut s = _
      rw [execResponseCut, hframe]
  · obtain ⟨code, rfl, rfl⟩ | ⟨always, code, body, hexec, hlength⟩ := exec_of_encodeFrame hencode
    · change execUnknownCommand code s = _
      rw [execUnknownCommand, hframe]
      exact ite_self _
    · rw [hexec, carryOut, hframe]
  · rw [hframe]
    rfl
  · change execFrameAbort s = _
    rw [execFrameAbort, hframe]
    rfl
  · change execFrameEnd s = _
    rw [execFrameEnd, hframe]
  · change execResponseCut s = _
    rw [execResponseCut, hframe]
  · rw [hframe, mdo_responding]
  · change execFrameEnd s = _
    have hbits := map_mdo_responding left left.length
    rw [List.take_length, Nat.sub_self, Nat.mul_zero, List.replicate_zero, List.append_nil] at hbits
    rw [execFrameEnd, hframe]
    dsimp only
    rw [State.sendMdo, hframe, hbits]
    rfl
  · change execResponseCut s = _
    have hphase : (Frame.responding left).phase 0 = some .response := by
      simp [Frame.phase, List.length_pos_iff.mpr hleft]
    rw [execResponseCut, hframe]
    dsimp only
    rw [if_pos hphase]
    rfl
  · change execResponseCut s = _
    have hphase : (Frame.responding left).phase 0 ≠ some .response := by simp [Frame.phase, hleft]
    rw [execResponseCut, hframe]
    dsimp only
    rw [if_neg hphase]
  · change execFrameAbort s = _
    rw [execFrameAbort, hframe]
  · have hclock (n : Nat) : clockBytes n left s =
        { s with frame := .responding (left.drop n),
                 mdoSent := s.mdoSent ++ bitsOf (left.take n) ++ List.replicate (8 * (n - left.length)) false } := by
      rw [clockBytes, State.sendMdo, hframe, map_mdo_responding, List.append_assoc]
    rw [← hclock]
    obtain ⟨code, rfl, rfl⟩ | ⟨always, code, body, hexec, hlength⟩ := exec_of_encodeFrame hencode
    · change execUnknownCommand code s = _
      have hunknown : unknownCode code = true := hwf
      rw [execUnknownCommand, hunknown, if_pos rfl, hframe]
      rfl
    · rw [hexec, carryOut, hframe, hlength]
  · change execUnknownCommand code s = _
    rw [execUnknownCommand, unknownCode_iff.mpr hcode, if_pos rfl, hframe]
    rfl

end Sys2Proof.Machine
end

section
/-! PROOF. The reset state, ranges of the address space, the decode at acceptance, and the path of a memory request. -/

namespace Sys2Proof.Machine

/-! ### After PWR_RESET -/

/-- Settles O4. -/
theorem resetState : Obligations.ResetState := by
  have hpair : Notified State.reset ∧ Bounded State.reset := ⟨by unfold Notified; decide, by unfold Bounded; decide⟩
  have hidle : OffIsIdle State.reset ∧ FlushIsPending State.reset :=
    ⟨by unfold OffIsIdle; decide, by unfold FlushIsPending; decide⟩
  refine ⟨⟨rfl, rfl, rfl, rfl, rfl, rfl⟩, fun q => ⟨Tests.reset_queue q, by simp [State.reset]⟩, ⟨rfl, rfl, rfl⟩,
    fun e => by simp [State.reset], fun k => by simp [State.reset], ⟨rfl, rfl, rfl, rfl, rfl, rfl, rfl⟩,
    ⟨rfl, rfl, rfl, rfl, rfl⟩, ⟨rfl, rfl, rfl⟩,
    hpair.1, hpair.2, ⟨.nil, .nil⟩, (settled_iff _).mpr (.nil _), hidle.1, hidle.2, fun k hk => absurd hk List.not_mem_nil,
    fun h => absurd rfl h, Tests.witness_AccountingKept, Tests.witness_limits.1, Tests.witness_limits.2.1⟩

/-! ### Ranges of the address space (R138, R156, R164) -/

/-- Two ranges that are not empty overlap when they have a byte in common; the address space wraps at its top. -/
theorem rangesOverlap_iff {a b : Addr} {n m : Nat} (hn : 0 < n) (hm : 0 < m) :
    rangesOverlap a n b m = true ↔ ∃ x < n, ∃ y < m, a + BitVec.ofNat 40 x = b + BitVec.ofNat 40 y := by
  have hleft (c d : Addr) (x y : Nat) (h : c + BitVec.ofNat 40 x = d + BitVec.ofNat 40 y) (hle : y ≤ x) :
      (d - c).toNat ≤ x := by
    have hdiff : d - c = BitVec.ofNat 40 (x - y) := by
      apply BitVec.eq_of_toNat_eq
      have := congrArg BitVec.toNat h
      simp only [BitVec.toNat_add, BitVec.toNat_sub, BitVec.toNat_ofNat] at this ⊢
      omega
    rw [hdiff, BitVec.toNat_ofNat]
    exact (Nat.mod_le _ _).trans (Nat.sub_le _ _)
  simp only [rangesOverlap, Bool.or_eq_true, decide_eq_true_eq]
  constructor
  · rintro (h | h)
    · exact ⟨_, h, 0, hm, by rw [BitVec.ofNat_toNat, BitVec.setWidth_eq]; bv_omega⟩
    · exact ⟨0, hn, _, h, by rw [BitVec.ofNat_toNat, BitVec.setWidth_eq]; bv_omega⟩
  · rintro ⟨x, hx, y, hy, h⟩
    obtain hle | hle := Nat.le_total y x
    · exact .inl (lt_of_le_of_lt (hleft a b x y h hle) hx)
    · exact .inr (lt_of_le_of_lt (hleft b a y x h.symm hle) hy)

/-- Whether an address is a multiple of 8. -/
theorem low_bits_iff (a : Addr) : a &&& 7#40 = 0#40 ↔ a.toNat % 8 = 0 := by
  rw [← BitVec.toNat_inj, BitVec.toNat_and]
  exact Eq.congr_left (Nat.and_two_pow_sub_one_eq_mod a.toNat 3)

theorem toNat_firstWord (a : Addr) : (firstWord a).toNat = a.toNat / 8 * 8 := by
  have hzero : (a &&& ~~~7#40) &&& (a &&& 7#40) = 0#40 := by
    ext k
    simp only [BitVec.getElem_and, BitVec.getElem_not, BitVec.getElem_zero]
    cases a[k] <;> simp
  have hsplit : firstWord a + (a &&& 7#40) = a := by
    rw [firstWord, BitVec.add_eq_or_of_and_eq_zero _ _ hzero]
    ext k
    simp only [BitVec.getElem_or, BitVec.getElem_and, BitVec.getElem_not]
    cases a[k] <;> simp
  have hlow : (a &&& 7#40).toNat = a.toNat % 8 := by
    rw [BitVec.toNat_and]
    exact Nat.and_two_pow_sub_one_eq_mod a.toNat 3
  have hle : firstWord a = a - (a &&& 7#40) := by
    rw [eq_comm, BitVec.sub_eq_iff_eq_add]
    exact hsplit.symm
  have halt := a.isLt
  rw [hle, BitVec.toNat_sub, hlow]
  omega

/-- The bytes of the words that beats touch: those in one aligned word with a byte of a beat (R138). -/
theorem wordSpan_iff {a w : Addr} {n : Nat} (hn : 1 ≤ n) :
    (∃ x < wordSpan a n, firstWord a + BitVec.ofNat 40 x = w) ↔ ∃ x < 8 * n, (a + BitVec.ofNat 40 x) >>> 3 = w >>> 3 := by
  have hword (x : Nat) : (a + BitVec.ofNat 40 x) >>> 3 = w >>> 3 ↔ (a.toNat + x) % 2 ^ 40 / 8 = w.toNat / 8 := by
    rw [← BitVec.toNat_inj]
    simp [Nat.shiftRight_eq_div_pow]
  have hbyte (x : Nat) : firstWord a + BitVec.ofNat 40 x = w ↔ (a.toNat / 8 * 8 + x) % 2 ^ 40 = w.toNat := by
    rw [← BitVec.toNat_inj, BitVec.toNat_add, toNat_firstWord, BitVec.toNat_ofNat, Nat.add_mod_mod]
  have halt := a.isLt
  have hwlt := w.isLt
  simp only [hword, hbyte, wordSpan, low_bits_iff]
  generalize a.toNat = A at halt ⊢
  generalize w.toNat = W at hwlt ⊢
  constructor
  · rintro ⟨x, hx, h⟩
    by_cases haligned : A % 8 = 0
    · rw [if_pos haligned] at hx
      exact ⟨x, hx, by omega⟩
    · rw [if_neg haligned] at hx
      by_cases hfirst : x < 8
      · exact ⟨0, by omega, by omega⟩
      · exact ⟨8 * (x / 8) - A % 8, by omega, by omega⟩
  · rintro ⟨x, hx, h⟩
    refine ⟨8 * ((A % 8 + x) / 8) + W % 8, ?_, by omega⟩
    split <;> omega

theorem wordSpan_pos {a : Addr} {n : Nat} (hn : 1 ≤ n) : 0 < wordSpan a n := by
  unfold wordSpan
  split <;> omega

/-- Two ranges share a word when a byte of each lies in one aligned word. -/
theorem shareWord_iff {a b : Addr} {n m : Nat} (hn : 1 ≤ n) (hm : 1 ≤ m) :
    shareWord a n b m = true ↔
      ∃ x < 8 * n, ∃ y < 8 * m, (a + BitVec.ofNat 40 x) >>> 3 = (b + BitVec.ofNat 40 y) >>> 3 := by
  rw [shareWord, rangesOverlap_iff (wordSpan_pos hn) (wordSpan_pos hm)]
  constructor
  · rintro ⟨x, hx, y, hy, h⟩
    obtain ⟨x', hx', ha⟩ := (wordSpan_iff hn).mp ⟨x, hx, rfl⟩
    obtain ⟨y', hy', hb⟩ := (wordSpan_iff hm).mp ⟨y, hy, rfl⟩
    exact ⟨x', hx', y', hy', by rw [ha, hb, h]⟩
  · rintro ⟨x, hx, y, hy, h⟩
    obtain ⟨x', hx', ha⟩ := (wordSpan_iff (w := a + BitVec.ofNat 40 x) hn).mpr ⟨x, hx, rfl⟩
    obtain ⟨y', hy', hb⟩ := (wordSpan_iff (w := a + BitVec.ofNat 40 x) hm).mpr ⟨y, hy, h.symm⟩
    exact ⟨x', hx', y', hy', ha.trans hb.symm⟩

theorem conflicts_iff {r e : MemReq} (hr : 1 ≤ r.body.count) (he : 1 ≤ e.body.count) :
    r.conflicts e = true ↔ (r.body.isWrite = true ∨ e.body.isWrite = true) ∧
      ∃ x < 8 * r.body.count, ∃ y < 8 * e.body.count, r.addr + BitVec.ofNat 40 x = e.addr + BitVec.ofNat 40 y := by
  rw [MemReq.conflicts, Bool.and_eq_true, MemReq.count, MemReq.count, rangesOverlap_iff (by omega) (by omega), Bool.or_eq_true,
    and_comm, MemReq.isWrite, MemReq.isWrite]

/-! ### The path of a memory request -/

/-- What the MP picks: the first request that nothing before it holds back (R163, R164). -/
theorem pickAllowed_eq {before front back : List MemReq} {m : MemReq} (hfree : ∀ e ∈ before ++ front, m.conflicts e = false)
    (hheld : ∀ b1 x b2, front = b1 ++ x :: b2 → ∃ e ∈ before ++ b1, x.conflicts e = true) :
    pickAllowed before (front ++ m :: back) = some (m, front ++ back) := by
  induction front generalizing before with
  | nil =>
    rw [List.append_nil] at hfree
    have hany : before.any (fun e => m.conflicts e) = false := List.any_eq_false.mpr fun e he => by simp [hfree e he]
    rw [List.nil_append, pickAllowed, if_neg (ne_true_of_eq_false hany), List.nil_append]
  | cons x front ih =>
    have hany : before.any (fun e => x.conflicts e) = true := by
      obtain ⟨e, he, hconflict⟩ := hheld [] x front rfl
      rw [List.append_nil] at he
      exact List.any_eq_true.mpr ⟨e, he, hconflict⟩
    have hrest := ih (before := before ++ [x]) (by simpa using hfree) fun b1 y b2 heq => by
      have := hheld (x :: b1) y b2 (by rw [heq, List.cons_append])
      simpa using this
    rw [List.cons_append, pickAllowed, if_pos hany, hrest, List.cons_append]

/-- Nothing is picked when each request is held back by one before it (R164). -/
theorem pickAllowed_eq_none {before queue : List MemReq}
    (hheld : ∀ b1 x b2, queue = b1 ++ x :: b2 → ∃ e ∈ before ++ b1, x.conflicts e = true) :
    pickAllowed before queue = none := by
  cases hpick : pickAllowed before queue with
  | none => rfl
  | some p =>
    obtain ⟨r, rest⟩ := p
    obtain ⟨front, back, rfl, -, hfree⟩ := pickAllowed_eq_some hpick
    obtain ⟨e, he, hconflict⟩ := hheld front r back rfl
    rw [hfree e he] at hconflict
    cases hconflict

theorem blocked_iff {locks : List Lock} {earlier : List Waiter} {a : Addr} {n : Nat} :
    blocked locks earlier a n = true ↔
      (∃ l ∈ locks, shareWord a n l.word 1 = true) ∨ (∃ m, .access m ∈ earlier ∧ shareWord m.addr m.count a n = true) ∨
      ∃ i word, .beat i word ∈ earlier ∧ shareWord word 1 a n = true := by
  rw [blocked, Bool.or_eq_true, List.any_eq_true, List.any_eq_true]
  refine or_congr_right ⟨fun ⟨w, hw, hshare⟩ => ?_, ?_⟩
  · cases w with
    | access m => exact .inl ⟨m, hw, hshare⟩
    | beat i word => exact .inr ⟨i, word, hw, hshare⟩
  · rintro (⟨m, hm, hshare⟩ | ⟨i, word, hw, hshare⟩)
    · exact ⟨.access m, hm, hshare⟩
    · exact ⟨.beat i word, hw, hshare⟩

/-- Where every waiter fails its test the waiting list stands (R139). -/
theorem settleFrom_of_allFail {kept ws : List Waiter} {s : State} (h : AllFail s.locks (kept ++ ws)) :
    settleFrom kept ws s = { s with waiting := kept ++ ws } := by
  induction ws generalizing kept with
  | nil => rw [settleFrom, List.append_nil]
  | cons w ws ih =>
    have hw := h kept w ws rfl
    have hnext : AllFail s.locks ((kept ++ [w]) ++ ws) := by rwa [List.append_assoc]
    cases w with
    | access r =>
      refine (if_pos hw).trans ((ih hnext).trans ?_)
      rw [List.append_assoc]
      rfl
    | beat i word =>
      refine (if_neg (ne_true_of_eq_false hw)).trans ((ih hnext).trans ?_)
      rw [List.append_assoc]
      rfl

/-- Settles O54. -/
theorem presentedAndReleased : Obligations.PresentedAndReleased := by
  refine ⟨fun r e => conflicts_iff, fun a b n m => shareWord_iff, fun s i => rfl, fun s => ⟨?_, ?_, ?_⟩,
    fun s m => ⟨fun h => if_pos h, fun h => if_neg (ne_true_of_eq_false h), rfl, rfl⟩, fun locks earlier a n => ⟨blocked_iff, ?_⟩,
    fun s => ⟨rfl, ?_, ?_⟩, fun s kept rest => ⟨rfl, fun m => ⟨fun h => if_pos h, fun h => if_neg (ne_true_of_eq_false h)⟩,
    fun i word => ⟨fun h => if_neg (ne_true_of_eq_false h), fun h => if_pos h⟩⟩⟩
  · intro before m after hqueue hlt hfree hheld
    change Host.Outcome.next (present s) = _
    refine congrArg Host.Outcome.next ((if_pos hlt).trans ?_)
    rw [hqueue, pickAllowed_eq hfree hheld]
  · intro hfull
    change Host.Outcome.next (present s) = _
    exact congrArg Host.Outcome.next (if_neg (Nat.not_lt.mpr hfull))
  · intro hheld
    change Host.Outcome.next (present s) = _
    rw [present, pickAllowed_eq_none hheld, ite_self]
  · rw [mayLock, Bool.and_eq_true, decide_eq_true_eq, Bool.not_eq_true']
    rfl
  · exact (settled_iff _).mpr (settleFrom_allFail [] s.waiting (.nil _))
  · intro hsettled
    exact congrArg Host.Outcome.next (settleFrom_of_allFail ((settled_iff s).mp hsettled))

/-! ### The decode at acceptance (sections 7.3 to 7.5) -/

/-- The first number that passes a test is the lowest that does. -/
theorem find?_upTo16_iff {p : Fin 16 → Bool} {k : Fin 16} :
    upTo16.find? p = some k ↔ p k = true ∧ ∀ j < k, p j = false := by
  have hget (j : Nat) (h : j < upTo16.length) : upTo16[j] = ⟨j, h⟩ := by
    have hall : ∀ j : Fin 16, upTo16[j.val]'j.isLt = j := by decide
    exact hall ⟨j, h⟩
  rw [List.find?_eq_some_iff_getElem]
  refine and_congr_right fun _ => ⟨?_, fun h => ⟨k.val, k.isLt, hget _ _, fun j hj => ?_⟩⟩
  · rintro ⟨n, hn, hk, hbefore⟩ j hj
    rw [hget] at hk
    subst hk
    have := hbefore j.val hj
    rwa [hget, Bool.not_eq_true'] at this
  · rw [hget, h ⟨j, hj.trans k.isLt⟩ hj]
    rfl

theorem covers_iff (a : Aperture) (addr : Addr) : a.covers addr = true ↔
    a.base.toNat ≤ addr.toNat ∧ addr.toNat < a.base.toNat + 2 ^ a.sizeExp.toNat := by
  rw [Aperture.covers, Aperture.offset, Aperture.size, Bool.and_eq_true, decide_eq_true_eq, decide_eq_true_eq]
  generalize 2 ^ a.sizeExp.toNat = size
  omega

theorem hit_iff {s : State} {addr : Addr} {k : ApId} : s.hit addr = some k ↔
    (s.apertures[k].enabled = true ∧ s.apertures[k].base.toNat ≤ addr.toNat ∧
      addr.toNat < s.apertures[k].base.toNat + 2 ^ s.apertures[k].sizeExp.toNat ∧
      ∀ j : ApId, j < k → ¬ (s.apertures[j].enabled = true ∧ s.apertures[j].base.toNat ≤ addr.toNat ∧
        addr.toNat < s.apertures[j].base.toNat + 2 ^ s.apertures[j].sizeExp.toNat)) := by
  rw [State.hit, find?_upTo16_iff, Bool.and_eq_true, covers_iff]
  simp only [← Bool.not_eq_true, Bool.and_eq_true, covers_iff]
  tauto

theorem guardApplies_iff {s : State} : s.guardApplies = true ↔ s.steering = .on ∧ 0 < s.poolSize ∧ s.guardOn = true := by
  rw [State.guardApplies, Bool.and_eq_true, Bool.and_eq_true, decide_eq_true_eq, decide_eq_true_eq, and_assoc]

theorem inArena_iff {s : State} {addr : Addr} {n : Nat} (hn : 1 ≤ n) (hpool : 1 ≤ s.poolSize) :
    s.inArena addr n = true ↔ ∃ x < 8 * n, ∃ y < 256 * s.poolSize,
      addr + BitVec.ofNat 40 x = s.arenaBase + BitVec.ofNat 40 y := rangesOverlap_iff (by omega) (by omega)

theorem decodeRequest_hit {s : State} {i : InitId} {r : Request} {k : ApId} (hon : s.steering = .on)
    (hhit : s.hit r.addr = some k) : decodeRequest s i r = decodeHit s i k r := by
  rw [decodeRequest, hon]
  dsimp only
  rw [hhit]

theorem recordQueue_eq (a : Aperture) : a.recordQueue = if a.kind = .queue then some a.queue else none := by
  unfold Aperture.recordQueue
  cases a.kind <;> rfl

/-- A hit that passes permission and alignment is decoded by the kind of its entry (R121). -/
theorem decodeHit_passed {s : State} {i : InitId} {r : Request} {k : ApId}
    (hpermitted : s.apertures[k].permitted.getLsbD i.val = true) (haligned : r.addr &&& 7#40 = 0#40) :
    decodeHit s i k r = match s.apertures[k].kind with
      | .queue => decodeQueue s.apertures[k] k (s.queue s.apertures[k].queue).config.cellLen r
      | .summary => decodeSummary s.apertures[k] k r
      | .merge => decodeMerge s s.apertures[k] k r := by
  unfold decodeHit
  dsimp only
  rw [hpermitted]
  refine (if_neg Bool.false_ne_true).trans ((if_neg (not_not.mpr haligned)).trans ?_)
  cases s.apertures[k].kind <;> rfl

/-! ### A hit on a QUEUE entry -/

/-- A beat stays in the quarter of the first beat while its offset in it stays below the quarter's size. -/
theorem add_div_eq_iff {off w : Nat} (hw : 0 < w) (x : Nat) : (off + x) / w = off / w ↔ off % w + x < w := by
  have hsplit : off + x = w * (off / w) + (off % w + x) := by rw [← Nat.add_assoc, Nat.div_add_mod]
  rw [hsplit, Nat.mul_add_div hw, Nat.add_eq_left, Nat.div_eq_zero_iff]
  omega

theorem add_mod_of_lt {off w x : Nat} (h : off % w + x < w) : (off + x) % w = off % w + x := by
  have hsplit : off + x = off % w + x + w * (off / w) := by rw [Nat.add_right_comm, Nat.mod_add_div]
  rw [hsplit, Nat.add_mul_mod_self_left, Nat.mod_eq_of_lt h]

theorem quarterOf_facts (c : CellLen) : 64 ≤ quarterOf c ∧ quarterOf c % 8 = 0 ∧ 8 * wordsOf c ≤ quarterOf c := by
  revert c
  decide

theorem ofQuarter_eq_control {n : Nat} : Window.ofQuarter n = .control ↔ n = 2 := by
  unfold Window.ofQuarter
  split <;> simp_all

section
variable {a : Aperture} {c : CellLen} {r : Request}

/-- The beats of a hit by their offsets in the entry: every beat stands in the first one's quarter, and outside slack. -/
def BeatsFit (a : Aperture) (c : CellLen) (r : Request) : Prop :=
  ∀ j < r.body.count, (a.offset r.addr + 8 * j) / quarterOf c = a.offset r.addr / quarterOf c ∧
    (a.offset r.addr / quarterOf c = 2 ∨ (a.offset r.addr + 8 * j) % quarterOf c / 8 < wordsOf c)

/-- The access of a queue hit exists exactly when every beat fits (R124, R125). -/
theorem beatsFit_iff (hcount : 1 ≤ r.body.count) (haligned : a.offset r.addr % 8 = 0) : BeatsFit a c r ↔
    (a.offset r.addr + 8 * (r.body.count - 1)) / quarterOf c = a.offset r.addr / quarterOf c ∧
      (Window.ofQuarter (a.offset r.addr / quarterOf c) = .control ∨
        a.offset r.addr % quarterOf c / 8 + r.body.count ≤ wordsOf c) := by
  obtain ⟨hsize, hmul, -⟩ := quarterOf_facts c
  have hw : 0 < quarterOf c := by omega
  have hrem : a.offset r.addr % quarterOf c % 8 = 0 := by
    rw [Nat.mod_mod_of_dvd _ (Nat.dvd_of_mod_eq_zero hmul), haligned]
  unfold BeatsFit
  simp only [add_div_eq_iff hw, ofQuarter_eq_control]
  constructor
  · intro h
    obtain ⟨hlast, hword⟩ := h (r.body.count - 1) (by omega)
    refine ⟨hlast, hword.imp_right fun hword => ?_⟩
    rw [add_mod_of_lt hlast] at hword
    omega
  · rintro ⟨hlast, hword⟩ j hj
    have hin : a.offset r.addr % quarterOf c + 8 * j < quarterOf c := by omega
    refine ⟨hin, hword.imp_right fun hword => ?_⟩
    rw [add_mod_of_lt hin]
    omega

/-- The access of a hit whose beats fit. -/
def fittedAccess (a : Aperture) (k : ApId) (c : CellLen) (r : Request) : QueueAccess :=
  { queue := a.queue, window := Window.ofQuarter (a.offset r.addr / quarterOf c),
    first := a.offset r.addr % quarterOf c / 8, aperture := k, cellLen := c }

theorem queueAccess?_eq (k : ApId) (hcount : 1 ≤ r.body.count) (haligned : a.offset r.addr % 8 = 0) :
    (BeatsFit a c r → queueAccess? a k c r.addr r.body.count = some (fittedAccess a k c r)) ∧
      (¬ BeatsFit a c r → queueAccess? a k c r.addr r.body.count = none) := by
  rw [beatsFit_iff hcount haligned]
  exact ⟨fun h => if_pos h, fun h => if_neg h⟩

/-- The decode of a hit on a suited entry, by whether its beats fit (R124, R125). -/
theorem decodeQueue_eq (k : ApId) (hcount : 1 ≤ r.body.count) (haligned : a.offset r.addr % 8 = 0)
    (hin : a.offset r.addr < a.size) (hsuited : a.size = suitedSize c) :
    (BeatsFit a c r → decodeQueue a k c r =
      if r.body.isWrite && (decide ((fittedAccess a k c r).window = .take) || decide ((fittedAccess a k c r).window = .peek)) then
        .refused .wrongWay (some k) (some a.queue)
      else .queue (fittedAccess a k c r)) ∧
    (¬ BeatsFit a c r → decodeQueue a k c r = .refused .boundary (some k) (some a.queue)) := by
  obtain ⟨hfit, hunfit⟩ := queueAccess?_eq (a := a) (c := c) k hcount haligned
  obtain ⟨hsize, hmul, -⟩ := quarterOf_facts c
  constructor
  · intro h
    have hend : ¬ a.size < a.offset r.addr + 8 * r.body.count := by
      have hlast := ((beatsFit_iff hcount haligned).mp h).1
      rw [add_div_eq_iff (by omega)] at hlast
      have hquarter : a.offset r.addr / quarterOf c < 4 :=
        Nat.div_lt_of_lt_mul (by rw [hsuited, suitedSize] at hin; omega)
      have hsplit := Nat.div_add_mod (a.offset r.addr) (quarterOf c)
      have hbound : quarterOf c * (a.offset r.addr / quarterOf c) ≤ quarterOf c * 3 := Nat.mul_le_mul_left _ (by omega)
      rw [hsuited, suitedSize]
      omega
    unfold decodeQueue
    rw [if_neg (not_not.mpr hsuited), if_neg hend, hfit h]
  · intro h
    unfold decodeQueue
    rw [if_neg (not_not.mpr hsuited), hunfit h]
    exact ite_self _

end

/-- An aligned address has an aligned offset in an entry at a multiple of its size (R119, R124). -/
theorem offset_mod_eight {a : Aperture} {addr : Addr} {c : CellLen} (haligned : addr &&& 7#40 = 0#40)
    (hbase : a.base.toNat % a.size = 0) (hsuited : a.size = suitedSize c) : a.offset addr % 8 = 0 := by
  obtain ⟨-, hmul, -⟩ := quarterOf_facts c
  have hdvd : 8 ∣ a.size := by
    rw [hsuited, suitedSize]
    omega
  have hbase8 : a.base.toNat % 8 = 0 := Nat.mod_eq_zero_of_dvd (hdvd.trans (Nat.dvd_of_mod_eq_zero hbase))
  rw [low_bits_iff] at haligned
  rw [Aperture.offset]
  omega

/-- Settles O27. -/
theorem queueHitDecoded : Obligations.QueueHitDecoded := by
  intro s i r k hon hhit hkind hpermitted haligned hwf a words w off hbase hsuited
  have hcount : 1 ≤ r.body.count := by
    simp only [Request.wf, Bool.and_eq_true, decide_eq_true_eq] at hwf
    exact hwf.1
  have hdecode : decodeRequest s i r = decodeQueue a k (s.queue a.queue).config.cellLen r := by
    rw [decodeRequest_hit hon hhit, decodeHit_passed hpermitted haligned, hkind]
  have hin : a.offset r.addr < a.size := by
    obtain ⟨-, hlow, hhigh, -⟩ := hit_iff.mp hhit
    change r.addr.toNat - s.apertures[k].base.toNat < 2 ^ s.apertures[k].sizeExp.toNat
    omega
  obtain ⟨hfit, hunfit⟩ := decodeQueue_eq k hcount (offset_mod_eight haligned hbase hsuited) hin hsuited
  rw [hdecode]
  refine ⟨fun ⟨j, hj, hbad⟩ => hunfit fun h => ?_, fun hgood => ⟨fun hwrite hwindow => ?_, fun hway => ?_⟩⟩
  · obtain ⟨hquarter, hword⟩ := h j hj
    obtain hbad | ⟨hne, hle⟩ := hbad
    · exact hbad hquarter
    · exact hword.elim hne fun hlt => absurd hle (Nat.not_le.mpr hlt)
  · refine (hfit hgood).trans (if_pos ?_)
    have hw : (fittedAccess a k (s.queue a.queue).config.cellLen r).window = Window.ofQuarter (off / w) := rfl
    rw [hwrite, hw]
    obtain h | h := hwindow <;> rw [h] <;> rfl
  · have hw : (fittedAccess a k (s.queue a.queue).config.cellLen r).window = Window.ofQuarter (off / w) := rfl
    refine (hfit hgood).trans ((if_neg ?_).trans ?_)
    · rw [hw]
      obtain h | h | h := hway <;> rw [h]
      · exact Bool.false_ne_true
      · simp [Window.ofQuarter]
      · simp [Window.ofQuarter]
    · rfl

/-! ### The other decodes -/

/-- A miss is refused exactly when the guard applies and a byte lies in the arena (R123). -/
theorem decodeRequest_miss {s : State} {i : InitId} {r : Request} (hon : s.steering = .on) (hmiss : s.hit r.addr = none) :
    decodeRequest s i r =
      if s.guardApplies && s.inArena r.addr r.body.count then .refused .arena none none else .passThrough := by
  rw [decodeRequest, hon]
  dsimp only
  rw [hmiss]

theorem decodeHit_refused {s : State} {i : InitId} {r : Request} {k : ApId} :
    (s.apertures[k].permitted.getLsbD i.val = false →
      decodeHit s i k r = .refused .permission (some k) s.apertures[k].recordQueue) ∧
    (s.apertures[k].permitted.getLsbD i.val = true → r.addr &&& 7#40 ≠ 0#40 →
      decodeHit s i k r = .refused .misalign (some k) s.apertures[k].recordQueue) := by
  constructor
  · intro h
    unfold decodeHit
    dsimp only
    rw [h]
    rfl
  · intro h haligned
    unfold decodeHit
    dsimp only
    rw [h]
    exact (if_neg Bool.false_ne_true).trans (if_pos haligned)

/-- Settles O28. -/
theorem decodeChecks : Obligations.DecodeChecks := by
  refine ⟨fun s => guardApplies_iff, fun s addr n hn hpool => inArena_iff hn hpool, fun s i r hoff => ?_,
    fun s addr k => hit_iff, fun s i r hon hmiss hwf => ?_, fun s i r k hon hhit => ?_⟩
  · rw [decodeRequest, hoff]
  · have hcount : 1 ≤ r.body.count := by
      simp only [Request.wf, Bool.and_eq_true, decide_eq_true_eq] at hwf
      exact hwf.1
    have hguard : (s.guardApplies && s.inArena r.addr r.body.count) = true ↔ s.poolSize ≠ 0 ∧ s.guardOn = true ∧
        ∃ x < 8 * r.body.count, ∃ y < 256 * s.poolSize, r.addr + BitVec.ofNat 40 x = s.arenaBase + BitVec.ofNat 40 y := by
      rw [Bool.and_eq_true, guardApplies_iff, Nat.pos_iff_ne_zero]
      constructor
      · rintro ⟨⟨-, hpool, hswitch⟩, harena⟩
        exact ⟨hpool, hswitch, (inArena_iff hcount (Nat.pos_iff_ne_zero.mpr hpool)).mp harena⟩
      · rintro ⟨hpool, hswitch, harena⟩
        exact ⟨⟨hon, hpool, hswitch⟩, (inArena_iff hcount (Nat.pos_iff_ne_zero.mpr hpool)).mpr harena⟩
    rw [decodeRequest_miss hon hmiss]
    exact ⟨fun h _ => if_pos (hguard.mpr h), fun h => if_neg (mt hguard.mp h)⟩
  · obtain ⟨hpermission, hmisalign⟩ := decodeHit_refused (s := s) (i := i) (r := r) (k := k)
    rw [decodeRequest_hit hon hhit]
    rw [recordQueue_eq] at hpermission hmisalign
    refine ⟨hpermission, hmisalign, fun hpermitted haligned => ?_⟩
    rw [decodeHit_passed hpermitted haligned]
    refine ⟨fun hkind hsize => ?_, fun hkind hlast => ?_, fun hkind hlast hwrite => ?_, fun hkind hlast hread => ?_,
      fun hkind hlast => ?_, fun hkind hlast hguard harena => ?_, fun hkind hlast hfree => ?_⟩
    all_goals rw [show s.apertures[k].kind = _ from hkind]; dsimp only
    · exact if_pos hsize
    · exact if_pos hlast
    · exact (if_neg (Nat.not_lt.mpr hlast)).trans (if_pos hwrite)
    · exact (if_neg (Nat.not_lt.mpr hlast)).trans (if_neg (ne_true_of_eq_false hread))
    · exact if_pos hlast
    · refine (if_neg (Nat.not_lt.mpr hlast)).trans (if_pos ?_)
      rw [hguard]
      exact harena
    · refine (if_neg (Nat.not_lt.mpr hlast)).trans (if_neg fun h => ?_)
      rw [Bool.and_eq_true] at h
      exact hfree.elim (fun hguard => absurd h.1 (ne_true_of_eq_false hguard)) fun harena =>
        absurd h.2 (ne_true_of_eq_false harena)

end Sys2Proof.Machine
end

section
/-! PROOF. The terms of the window statements, and PUT_WINDOW_WRITE (chapters 2 and 4, R30, R53, R67, R126). -/

namespace Sys2Proof.Machine

/-! ### Derived quantities (R19) -/

theorem writtenBits_getLsbD (first : Nat) (bs : List WriteBeat) {w : Nat} (hw : w < 32) :
    (writtenBits first bs).getLsbD w = true ↔ ∃ j b, bs[j]? = some b ∧ first + j = w ∧ b.strobes ≠ 0#8 := by
  induction bs generalizing first with
  | nil => simp [writtenBits]
  | cons x bs ih =>
    have hhead : (if x.strobes = 0#8 then 0#32 else 1#32 <<< first).getLsbD w = true ↔ first = w ∧ x.strobes ≠ 0#8 := by
      split
      next hzero => simp [hzero]
      next hone =>
        simp only [BitVec.getLsbD_shiftLeft, BitVec.getLsbD_one, Bool.and_eq_true, Bool.not_eq_true', decide_eq_true_eq,
          decide_eq_false_iff_not, ne_eq, hone, not_false_eq_true, and_true]
        omega
    rw [writtenBits, BitVec.getLsbD_or, Bool.or_eq_true, ih, hhead]
    constructor
    · rintro (⟨hfirst, hstrobes⟩ | ⟨j, b, hb, hj, hstrobes⟩)
      · exact ⟨0, x, rfl, hfirst, hstrobes⟩
      · exact ⟨j + 1, b, hb, by omega, hstrobes⟩
    · rintro ⟨j, b, hb, hj, hstrobes⟩
      cases j with
      | zero =>
        obtain rfl : x = b := by simpa using hb
        exact .inl ⟨hj, hstrobes⟩
      | succ j => exact .inr ⟨j, b, hb, by omega, hstrobes⟩

theorem closing_iff (a : QueueAccess) (n : Nat) :
    a.closing n = true ↔ a.first ≤ 2 ^ a.cellLen.val - 1 ∧ 2 ^ a.cellLen.val - 1 < a.first + n := by
  have hmem : a.closing n = true ↔ ∃ j < n, a.first + j = 2 ^ a.cellLen.val - 1 := by
    simp [QueueAccess.closing, QueueAccess.words, wordsOf]
  rw [hmem]
  exact ⟨fun ⟨j, hj, h⟩ => by omega,
    fun ⟨hle, hlt⟩ => ⟨2 ^ a.cellLen.val - 1 - a.first, by omega, Nat.add_sub_cancel' hle⟩⟩

theorem committedIn_length (s : State) (q : QueueId) (k : CellState) :
    (s.committedIn q k).length = (s.queue q).committed.countP (fun c => decide ((s.cell c).state = k)) :=
  List.countP_eq_length_filter.symm

theorem heldOut_eq (s : State) (q : QueueId) (c : Nat) :
    s.heldOut q c (s.cell c) =
      decide ((s.cell c).state = .taken ∧ (s.cell c).owner = some q ∧ c ∉ (s.queue q).committed) := by
  rw [Bool.eq_iff_iff, State.heldOut]
  simp [and_assoc]

theorem zipIdx_cells (s : State) : s.cells.zipIdx = (List.range s.cells.length).map (fun c => (s.cell c, c)) := by
  refine List.ext_getElem (by simp) fun n hn hn' => ?_
  rw [List.length_zipIdx] at hn
  simp [State.cell, hn]

theorem heldOutCount_eq (s : State) (q : QueueId) : s.heldOutCount q =
    (List.range s.cells.length).countP (fun c => decide
      ((s.cell c).state = .taken ∧ (s.cell c).owner = some q ∧ c ∉ (s.queue q).committed)) := by
  rw [State.heldOutCount, zipIdx_cells, List.countP_map]
  exact List.countP_congr fun c _ => by rw [Function.comp, heldOut_eq]

theorem full_iff (s : State) (q : QueueId) :
    s.full q = true ↔ (s.queue q).config.limit ≤ s.holding q ∨ s.freeList = [] := by
  rw [State.full, Bool.or_eq_true, decide_eq_true_eq, List.isEmpty_iff]

theorem oldest_eq_some_iff (s : State) (q : QueueId) (c : Nat) : s.oldest q = some c ↔
    ∃ before after, (s.queue q).committed = before ++ c :: after ∧ (s.cell c).state = .queued ∧
      ∀ d ∈ before, (s.cell d).state ≠ .queued := by
  rw [State.oldest, List.find?_eq_some_iff_append]
  simp only [decide_eq_true_eq, Bool.not_eq_true', decide_eq_false_iff_not]
  exact ⟨fun ⟨hqueued, before, after, hlist, hbefore⟩ => ⟨before, after, hlist, hqueued, hbefore⟩,
    fun ⟨before, after, hlist, hqueued, hbefore⟩ => ⟨hqueued, before, after, hlist, hbefore⟩⟩

/-! ### Entries and slots -/

/-- The first of eight numbers that passes a test is the lowest that does. -/
theorem find?_upTo8_iff {p : Fin 8 → Bool} {k : Fin 8} :
    upTo8.find? p = some k ↔ p k = true ∧ ∀ j < k, p j = false := by
  have hget (j : Nat) (h : j < upTo8.length) : upTo8[j] = ⟨j, h⟩ := by
    have hall : ∀ j : Fin 8, upTo8[j.val]'j.isLt = j := by decide
    exact hall ⟨j, h⟩
  rw [List.find?_eq_some_iff_getElem]
  refine and_congr_right fun _ => ⟨?_, fun h => ⟨k.val, k.isLt, hget _ _, fun j hj => ?_⟩⟩
  · rintro ⟨n, hn, hk, hbefore⟩ j hj
    rw [hget] at hk
    subst hk
    have := hbefore j.val hj
    rwa [hget, Bool.not_eq_true'] at this
  · rw [hget, h ⟨j, hj.trans k.isLt⟩ hj]
    rfl

theorem freePut_eq_some_iff (s : State) (e : EntryId) :
    s.freePut = some e ↔ s.putTable[e] = none ∧ ∀ f : EntryId, f < e → s.putTable[f] ≠ none := by
  rw [State.freePut, find?_upTo16_iff, Option.isNone_iff_eq_none]
  exact and_congr_right fun _ => forall₂_congr fun f _ => by rw [Option.isNone_eq_false_iff, Option.isSome_iff_ne_none]

theorem freeTake_eq_some_iff (s : State) (e : EntryId) :
    s.freeTake = some e ↔ s.takeTable[e] = none ∧ ∀ f : EntryId, f < e → s.takeTable[f] ≠ none := by
  rw [State.freeTake, find?_upTo16_iff, Option.isNone_iff_eq_none]
  exact and_congr_right fun _ => forall₂_congr fun f _ => by rw [Option.isNone_eq_false_iff, Option.isSome_iff_ne_none]

theorem freeSlot_eq_some_iff (s : State) (k : SlotId) :
    s.freeSlot = some k ↔ s.slots[k] = none ∧ ∀ j : SlotId, j < k → s.slots[j] ≠ none := by
  rw [State.freeSlot, find?_upTo8_iff, Option.isNone_iff_eq_none]
  exact and_congr_right fun _ => forall₂_congr fun f _ => by rw [Option.isNone_eq_false_iff, Option.isSome_iff_ne_none]

theorem putEntry_eq_some_iff (s : State) (i : InitId) (q : QueueId) (e : EntryId) :
    s.putEntry i q = some e ↔ (∃ b, s.putTable[e] = some b ∧ b.init = i ∧ b.origin = q) ∧
      ∀ (f : EntryId) d, f < e → s.putTable[f] = some d → ¬ (d.init = i ∧ d.origin = q) := by
  rw [State.putEntry, find?_upTo16_iff]
  refine and_congr ?_ ⟨fun h f d hf hd => ?_, fun h f hf => ?_⟩
  · cases s.putTable[e] with
    | none => simp
    | some b => simp
  · have := h f hf
    rw [hd] at this
    simpa using this
  · cases hd : s.putTable[f] with
    | none => rfl
    | some d => simpa using h f d hf hd

theorem takeEntry_eq_some_iff (s : State) (i : InitId) (q : QueueId) (e : EntryId) :
    s.takeEntry i q = some e ↔ (∃ b, s.takeTable[e] = some b ∧ b.init = i ∧ b.queue = q) ∧
      ∀ (f : EntryId) d, f < e → s.takeTable[f] = some d → ¬ (d.init = i ∧ d.queue = q) := by
  rw [State.takeEntry, find?_upTo16_iff]
  refine and_congr ?_ ⟨fun h f d hf hd => ?_, fun h f hf => ?_⟩
  · cases s.takeTable[e] with
    | none => simp
    | some b => simp
  · have := h f hf
    rw [hd] at this
    simpa using this
  · cases hd : s.takeTable[f] with
    | none => rfl
    | some d => simpa using h f d hf hd

theorem putBinding_eq_some_iff (s : State) (i : InitId) (q : QueueId) (e : EntryId) (b : PutBinding) :
    s.putBinding i q = some (e, b) ↔ s.putTable[e] = some b ∧ b.init = i ∧ b.origin = q ∧
      ∀ (f : EntryId) d, f < e → s.putTable[f] = some d → ¬ (d.init = i ∧ d.origin = q) := by
  have hentry : s.putBinding i q = some (e, b) ↔ s.putEntry i q = some e ∧ s.putTable[e] = some b := by
    unfold State.putBinding
    cases s.putEntry i q with
    | none => simp
    | some f =>
      dsimp only
      rw [Option.map_eq_some_iff]
      simp only [Prod.mk.injEq, Option.some.injEq]
      exact ⟨fun ⟨d, hd, hf, hb⟩ => by subst hf hb; exact ⟨rfl, hd⟩, fun ⟨hf, hb⟩ => by subst hf; exact ⟨b, hb, rfl, rfl⟩⟩
  rw [hentry, putEntry_eq_some_iff]
  constructor
  · rintro ⟨⟨⟨d, hd, hinit, horigin⟩, hbefore⟩, hb⟩
    obtain rfl : d = b := Option.some.inj (hd.symm.trans hb)
    exact ⟨hb, hinit, horigin, hbefore⟩
  · rintro ⟨hb, hinit, horigin, hbefore⟩
    exact ⟨⟨⟨b, hb, hinit, horigin⟩, hbefore⟩, hb⟩

theorem takeBinding_eq_some_iff (s : State) (i : InitId) (q : QueueId) (e : EntryId) (b : TakeBinding) :
    s.takeBinding i q = some (e, b) ↔ s.takeTable[e] = some b ∧ b.init = i ∧ b.queue = q ∧
      ∀ (f : EntryId) d, f < e → s.takeTable[f] = some d → ¬ (d.init = i ∧ d.queue = q) := by
  have hentry : s.takeBinding i q = some (e, b) ↔ s.takeEntry i q = some e ∧ s.takeTable[e] = some b := by
    unfold State.takeBinding
    cases s.takeEntry i q with
    | none => simp
    | some f =>
      dsimp only
      rw [Option.map_eq_some_iff]
      simp only [Prod.mk.injEq, Option.some.injEq]
      exact ⟨fun ⟨d, hd, hf, hb⟩ => by subst hf hb; exact ⟨rfl, hd⟩, fun ⟨hf, hb⟩ => by subst hf; exact ⟨b, hb, rfl, rfl⟩⟩
  rw [hentry, takeEntry_eq_some_iff]
  constructor
  · rintro ⟨⟨⟨d, hd, hinit, hqueue⟩, hbefore⟩, hb⟩
    obtain rfl : d = b := Option.some.inj (hd.symm.trans hb)
    exact ⟨hb, hinit, hqueue, hbefore⟩
  · rintro ⟨hb, hinit, hqueue, hbefore⟩
    exact ⟨⟨⟨b, hb, hinit, hqueue⟩, hbefore⟩, hb⟩

/-- The entry of a key is that of its binding. -/
theorem putEntry_eq_map (s : State) (i : InitId) (q : QueueId) : s.putEntry i q = (s.putBinding i q).map Prod.fst := by
  unfold State.putBinding
  cases h : s.putEntry i q with
  | none => rfl
  | some e =>
    obtain ⟨⟨b, hb, -⟩, -⟩ := (putEntry_eq_some_iff s i q e).mp h
    simp only [hb, Option.map_some]

theorem takeEntry_eq_map (s : State) (i : InitId) (q : QueueId) : s.takeEntry i q = (s.takeBinding i q).map Prod.fst := by
  unfold State.takeBinding
  cases h : s.takeEntry i q with
  | none => rfl
  | some e =>
    obtain ⟨⟨b, hb, -⟩, -⟩ := (takeEntry_eq_some_iff s i q e).mp h
    simp only [hb, Option.map_some]

theorem isFlushing_iff (x : QueueCtx) : x.isFlushing = true ↔ ∃ r, x.state = .flushing r := by
  unfold QueueCtx.isFlushing
  cases x.state <;> simp

/-! ### Updates of one cell -/

/-- Two changes of a cell are one; a number outside the pool is no cell. -/
theorem State.updCell_setCell (s : State) (c : Nat) (x : Cell) (f : Cell → Cell) :
    (s.setCell c x).updCell c f = s.setCell c (f x) := by
  obtain hc | hc := Nat.lt_or_ge c s.cells.length
  · rw [State.updCell, State.setCell_cell_self s hc, State.setCell_setCell]
  · rw [State.updCell_eq, State.setCell_outside s hc, State.setCell_outside s hc, State.setCell_outside s hc]

theorem State.updCell_updCell (s : State) (c : Nat) (f g : Cell → Cell) :
    (s.updCell c f).updCell c g = s.updCell c (fun x => g (f x)) :=
  State.updCell_setCell s c (f (s.cell c)) g

/-- What a composition write does to its cell: the words of its beats are written, and an access is in flight (R33, R34). -/
def Cell.composed (x : Cell) (first : Nat) (b : Body) : Cell :=
  { x with written := x.written.map (· ||| writtenBits first b.writeBeats), inFlight := x.inFlight + 1 }

/-- A composition write marks its cell and hands the memory request over. -/
theorem composeWrite_eq_updCell (i : InitId) (r : Request) (a : QueueAccess) (target : QueueId) (c : Nat) (s : State) :
    composeWrite i r a target c s =
      handOver (s.cellWord i r a target c (.compose (a.closing r.body.count)))
        (s.updCell c (·.composed a.first r.body)) := by
  unfold composeWrite incFlight
  dsimp only
  rw [State.updCell_updCell]
  cases r.body <;> rfl

/-- A composition write into a cell that has just been given its record. -/
theorem composeWrite_setCell (i : InitId) (r : Request) (a : QueueAccess) (target : QueueId) (c : Nat) (x : Cell) (s : State) :
    composeWrite i r a target c (s.setCell c x) =
      handOver (s.cellWord i r a target c (.compose (a.closing r.body.count)))
        (s.setCell c (x.composed a.first r.body)) := by
  rw [composeWrite_eq_updCell, State.updCell_setCell]
  rfl

/-! ### Allocation (R31) -/

/-- Initiator `i` has taken the Free List head for a new composition: the cell is OPEN for the target under an ACTIVE binding
in entry `e`, with the first words recorded. -/
def State.opened (s : State) (i : InitId) (r : Request) (a : QueueAccess) (target : QueueId) (origin : Option QueueId)
    (e : EntryId) (c : Nat) (rest : List Nat) : State :=
  { s with
      freeList := rest, cells := s.cells.set c ((Cell.opening target origin).composed a.first r.body),
      queues := s.queues.set target { s.queue target with openCount := (s.queue target).openCount + 1 },
      putTable := s.putTable.set e (some { init := i, origin := a.queue, target := target, state := .active c }) }

/-- An opening write allocates the Free List head and hands its memory request over (R31, R33). -/
theorem openWrite_eq_handOver (i : InitId) (r : Request) (a : QueueAccess) (target : QueueId) (origin : Option QueueId)
    (e : EntryId) {c : Nat} {rest : List Nat} {s : State} (hfree : s.freeList = c :: rest) :
    openWrite i r a target origin e s =
      handOver (s.cellWord i r a target c (.compose (a.closing r.body.count))) (s.opened i r a target origin e c rest) := by
  have hallocate : allocate target origin s =
      some (c, incOpen target { s.setCell c (Cell.opening target origin) with freeList := rest }) := by
    rw [allocate, hfree]
  rw [openWrite, hallocate]
  dsimp only
  have hpattern : ((s.opened i r a target origin e c rest).queue target).config = (s.queue target).config := by
    simp [State.opened, State.queue]
  refine (composeWrite_setCell i r a target c (Cell.opening target origin)
    ((incOpen target { s with freeList := rest }).setPut e
      (some { init := i, origin := a.queue, target := target, state := .active c }))).trans ?_
  have hword : ((incOpen target { s with freeList := rest }).setPut e
      (some { init := i, origin := a.queue, target := target, state := .active c })).cellWord i r a target c
        (.compose (a.closing r.body.count)) = s.cellWord i r a target c (.compose (a.closing r.body.count)) := by
    unfold State.cellWord
    rw [← hpattern]
    rfl
  rw [hword]
  rfl

/-- The first words of a freshly OPEN cell. -/
theorem opening_composed (q : QueueId) (origin : Option QueueId) (first : Nat) (b : Body) :
    (Cell.opening q origin).composed first b =
      { state := .opened, owner := some q, origin := origin, sequence := none, written := some (writtenBits first b.writeBeats),
        complete := false, damaged := false, pins := 0, inFlight := 1 } := by
  simp [Cell.composed, Cell.opening]

/-- An opening write on an ENABLED queue that is not full, with a free entry (R30, R31). -/
theorem openingWrite_notFull {s : State} (i : InitId) (r : Request) {a : QueueAccess} {e : EntryId}
    (henabled : (s.queue a.queue).state = .rest .enabled) (hfree : s.freePut = some e) (hroom : s.full a.queue = false) :
    openingWrite i r a s = openWrite i r a a.queue none e (s.take i) := by
  simp [openingWrite, henabled, hfree, hroom]

/-- Settles O32. -/
theorem openingWriteAllocates : Obligations.OpeningWriteAllocates := by
  refine ⟨fun s i r a e c rest hturn hwrite hbind henabled hfree hroom hlist => ?_, fun first bs w => writtenBits_getLsbD first bs,
    closing_iff, fun s q => ⟨committedIn_length s q _, committedIn_length s q _, ?_, full_iff s q, oldest_eq_some_iff s q⟩,
    fun s => ⟨freePut_eq_some_iff s, freeTake_eq_some_iff s, freeSlot_eq_some_iff s⟩,
    fun s i q => ⟨putBinding_eq_some_iff s i q, takeBinding_eq_some_iff s i q, putEntry_eq_map s i q, takeEntry_eq_map s i q,
      isFlushing_iff _⟩⟩
  · have hhead : (s.take i).freeList = c :: rest := hlist
    rw [exec_putWindowWrite_opening hturn hwrite hbind, openingWrite_notFull i r henabled hfree hroom,
      openWrite_eq_handOver i r a a.queue none e hhead, State.opened, opening_composed]
    rfl
  · rw [State.holding, heldOutCount_eq]

end Sys2Proof.Machine
end

section
/-! PROOF. Window requests that are refused, dropped, diverted, parked, or go through a put binding (chapters 2 to 5). -/

namespace Sys2Proof.Machine

/-! ### What a command answers -/

/-- A command whose result is a response on a state with the same view answers, and changes that state's port alone. -/
theorem exists_answered {s u : State} {out : Host.Outcome State Fault Refusal} {i : InitId} {code : RespCode} {data : List Word}
    (hout : out = .next (respond i code data u).notify) (hview : u.view = s.view)
    (hconfig : ∀ q, (u.queue q).config = (s.queue q).config := by exact fun _ => rfl) :
    ∃ t, out = .next t ∧ Answered i code data s t ∧ t = (u.port t).notify :=
  ⟨_, hout, (respond_answered_of_view i code data hview hconfig).notify, congrArg State.notify (respond_eq ..)⟩

/-- A command whose result is a FAULT response on a state with the same view answers, and makes one record. -/
theorem exists_faulted {s u : State} {out : Host.Outcome State Fault Refusal} {kind : FaultKind} {i : InitId} {addr : Addr}
    {k : Option ApId} {q : Option QueueId} {data : List Word}
    (hout : out = .next (respondFault kind i addr k q data u).notify) (hview : u.view = s.view)
    (hconfig : ∀ q, (u.queue q).config = (s.queue q).config := by exact fun _ => rfl)
    (htick : u.tickCount = s.tickCount := by rfl) :
    ∃ t, out = .next t ∧ Answered i .fault data s t ∧
      t = ((u.port t).appendRecord (s.faultRecord kind i addr k q)).notify := by
  refine ⟨_, hout, (respondFault_answered_of_view kind i addr k q data hview hconfig).notify, ?_⟩
  rw [State.port_notify, ← State.faultRecord_congr htick]
  exact congrArg State.notify (respondFault_eq ..)

/-- The same configuration stands in every context after one context is replaced that keeps it. -/
theorem config_setQueue {s : State} {q : QueueId} {x : QueueCtx} (h : x.config = (s.queue q).config) (p : QueueId) :
    ((s.setQueue q x).queue p).config = (s.queue p).config := by
  by_cases hp : p = q
  · subst hp
    rw [State.setQueue_queue_self, h]
  · rw [State.setQueue_queue_ne s hp]

/-! ### The turn of a window request -/

theorem windowRequest_eq_none {s : State} (hdrain : s.drain = true) (w : Window) (i : InitId) : s.windowRequest w i = none := by
  rw [State.windowRequest, if_pos hdrain]

/-- A current window request is found while no reset drain is set (R126, R158). -/
theorem windowRequest_eq_some {s : State} {w : Window} {i : InitId} {r : Request} {a : QueueAccess} (hdrain : s.drain = false)
    (hcurrent : Current s i r (.queue a)) (hwindow : a.window = w) : s.windowRequest w i = some (r, a) := by
  simp [State.windowRequest, hdrain, hcurrent.current, hwindow]

/-- Each window command performs the request it finds. -/
theorem exec_putWindowWrite_found {s : State} {i : InitId} {r : Request} {a : QueueAccess}
    (hfound : s.windowRequest .put i = some (r, a)) (hwrite : r.body.isWrite = true) :
    exec (.putWindowWrite i) s = .next (putWrite i r a s).notify := by
  change execPutWindowWrite i s = _
  rw [execPutWindowWrite, hfound]
  exact if_pos hwrite

theorem exec_putWindowRead_found {s : State} {i : InitId} {r : Request} {a : QueueAccess}
    (hfound : s.windowRequest .put i = some (r, a)) (hread : r.body.isWrite = false) :
    exec (.putWindowRead i) s = .next (putWindowRead i r a s).notify := by
  change execPutWindowRead i s = _
  rw [execPutWindowRead, hfound]
  exact if_neg (ne_true_of_eq_false hread)

theorem exec_takeWindowRead_found {s : State} {i : InitId} {r : Request} {a : QueueAccess}
    (hfound : s.windowRequest .take i = some (r, a)) (hread : r.body.isWrite = false) :
    exec (.takeWindowRead i) s = .next (takeWindowRead i r a s).notify := by
  change execTakeWindowRead i s = _
  rw [execTakeWindowRead, hfound]
  exact if_neg (ne_true_of_eq_false hread)

theorem exec_peekRead_found {s : State} {i : InitId} {r : Request} {a : QueueAccess}
    (hfound : s.windowRequest .peek i = some (r, a)) (hread : r.body.isWrite = false) :
    exec (.peekRead i) s = .next (peekWindowRead i r a s).notify := by
  change execPeekRead i s = _
  rw [execPeekRead, hfound]
  exact if_neg (ne_true_of_eq_false hread)

section
variable {s : State} {i : InitId} {r : Request} {a : QueueAccess}

theorem stale_iff : s.stale a = true ↔ (s.queue a.queue).config.cellLen ≠ a.cellLen := by
  rw [State.stale, decide_eq_true_eq]

theorem takeWindowRead_first {w : Window} (hturn : WindowTurn w s i r a) (hbind : s.takeBinding i a.queue = none) :
    takeWindowRead i r a s = firstTake i r a s := by
  rw [takeWindowRead, hturn.stale, hbind]
  rfl

/-- A first take at its turn (R50, R53). -/
theorem exec_takeWindowRead_first (hturn : WindowTurn .take s i r a) (hread : r.body.isWrite = false)
    (hbind : s.takeBinding i a.queue = none) : exec (.takeWindowRead i) s = .next (firstTake i r a s).notify := by
  rw [exec_takeWindowRead_found hturn.windowRequest hread, takeWindowRead_first hturn hbind]

/-- A window command takes no request while the reset drain is set (R86). -/
theorem exec_windowCommand_drain (hdrain : s.drain = true) {c : Instr} (hc : c ∈ windowCommand i) : exec c s = .next s := by
  have hnone (w : Window) := windowRequest_eq_none hdrain w i
  have hcontrol (p : List Nat → Bool) : controlWriteIf p i s = .next s := by
    rw [controlWriteIf, State.controlWrite, hnone]
  simp only [windowCommand, List.mem_cons, List.not_mem_nil, or_false] at hc
  obtain rfl | rfl | rfl | rfl | rfl | rfl | rfl | rfl | rfl := hc
  · change execPutWindowWrite i s = _
    rw [execPutWindowWrite, hnone]
  · change execPutWindowRead i s = _
    rw [execPutWindowRead, hnone]
  · change execTakeWindowRead i s = _
    rw [execTakeWindowRead, hnone]
  · change execPeekRead i s = _
    rw [execPeekRead, hnone]
  · exact hcontrol _
  · exact hcontrol _
  · exact hcontrol _
  · exact hcontrol (fun ws => ws.all (fun w => !effectWords.contains w))
  · change execControlPageRead i s = _
    rw [execControlPageRead, hnone]

/-- A request whose queue has changed its cell length is refused (R126). -/
theorem exec_stale (hdrain : s.drain = false) (hcurrent : Current s i r (.queue a)) (hstale : s.stale a = true) {c : Instr}
    (hc : (a.window = .put ∧ c = .putWindowWrite i ∧ r.body.isWrite = true) ∨
      (a.window = .put ∧ c = .putWindowRead i ∧ r.body.isWrite = false) ∨
      (a.window = .take ∧ c = .takeWindowRead i ∧ r.body.isWrite = false) ∨
      (a.window = .peek ∧ c = .peekRead i ∧ r.body.isWrite = false)) :
    exec c s = .next (queueFault .boundary i r a (r.body.fill 0#64) s).notify := by
  obtain ⟨hwindow, rfl, hbody⟩ | ⟨hwindow, rfl, hbody⟩ | ⟨hwindow, rfl, hbody⟩ | ⟨hwindow, rfl, hbody⟩ := hc
  · rw [exec_putWindowWrite_found (windowRequest_eq_some hdrain hcurrent hwindow) hbody, putWrite, if_pos hstale,
      Body.fill_write hbody]
  · rw [exec_putWindowRead_found (windowRequest_eq_some hdrain hcurrent hwindow) hbody, putWindowRead, if_pos hstale]
  · rw [exec_takeWindowRead_found (windowRequest_eq_some hdrain hcurrent hwindow) hbody, takeWindowRead, if_pos hstale]
  · rw [exec_peekRead_found (windowRequest_eq_some hdrain hcurrent hwindow) hbody, peekWindowRead, if_pos hstale]

/-- The tests of an opening write, a first take and a peek by the state of the queue (R30, R53, R67): DISABLED and FLUSHING are
refused alike. -/
theorem exec_notEnabled {w : Window} (hturn : WindowTurn w s i r a) {c : Instr}
    (hc : (w = .put ∧ c = .putWindowWrite i ∧ r.body.isWrite = true ∧ s.putBinding i a.queue = none) ∨
      (w = .take ∧ c = .takeWindowRead i ∧ r.body.isWrite = false ∧ s.takeBinding i a.queue = none) ∨
      (w = .peek ∧ c = .peekRead i ∧ r.body.isWrite = false)) :
    ((s.queue a.queue).state = .rest .disabled →
      exec c s = .next (queueFault .disabled i r a (s.emptyData a.queue r) s).notify) ∧
    ((s.queue a.queue).isFlushing = true → exec c s = .next (respond i .fail (s.emptyData a.queue r) s).notify) := by
  obtain ⟨rfl, rfl, hbody, hbind⟩ | ⟨rfl, rfl, hbody, hbind⟩ | ⟨rfl, rfl, hbody⟩ := hc
  · rw [exec_putWindowWrite_opening hturn hbody hbind, State.emptyData, Body.fill_write hbody, openingWrite]
    refine ⟨fun h => by rw [h], fun h => ?_⟩
    obtain ⟨prior, hstate⟩ := (isFlushing_iff _).mp h
    rw [hstate]
  · rw [exec_takeWindowRead_first hturn hbody hbind, firstTake]
    refine ⟨fun h => by rw [h], fun h => ?_⟩
    obtain ⟨prior, hstate⟩ := (isFlushing_iff _).mp h
    rw [hstate]
  · have hstale : ¬ s.stale a = true := ne_true_of_eq_false hturn.stale
    rw [exec_peekRead_found hturn.windowRequest hbody, peekWindowRead, if_neg hstale]
    refine ⟨fun h => by rw [h], fun h => ?_⟩
    obtain ⟨prior, hstate⟩ := (isFlushing_iff _).mp h
    rw [hstate]

/-- An opening write or a first take that finds its binding table full (R28, R30, R51, R53). -/
theorem exec_noEntry {w : Window} (hturn : WindowTurn w s i r a) {c : Instr} (henabled : (s.queue a.queue).state = .rest .enabled)
    (hc : (w = .put ∧ c = .putWindowWrite i ∧ r.body.isWrite = true ∧ s.putBinding i a.queue = none) ∨
      (w = .take ∧ c = .takeWindowRead i ∧ r.body.isWrite = false ∧ s.takeBinding i a.queue = none) ∨
      (w = .peek ∧ c = .peekRead i ∧ r.body.isWrite = false))
    (hfull : (w = .put ∧ s.freePut = none) ∨ (w = .take ∧ s.freeTake = none)) :
    exec c s = .next (queueFault .noBinding i r a (s.emptyData a.queue r) s).notify := by
  obtain ⟨rfl, rfl, hbody, hbind⟩ | ⟨rfl, rfl, hbody, hbind⟩ | ⟨rfl, rfl, hbody⟩ := hc
  · have hnone : s.freePut = none := hfull.elim And.right fun h => absurd h.1 (by decide)
    rw [exec_putWindowWrite_opening hturn hbody hbind, State.emptyData, Body.fill_write hbody, openingWrite, henabled, hnone]
  · have hnone : s.freeTake = none := hfull.elim (fun h => absurd h.1 (by decide)) And.right
    rw [exec_takeWindowRead_first hturn hbody hbind, firstTake, henabled, hnone]
  · exact absurd hfull (by simp)

end

/-- Settles O33. -/
theorem accessesRefused : Obligations.AccessesRefused :=
  ⟨fun _ _ _ hc hdrain => exec_windowCommand_drain hdrain hc,
    fun _ _ _ _ _ hdrain hcurrent hlen hc => exists_faulted (exec_stale hdrain hcurrent (stale_iff.mpr hlen) hc) rfl,
    fun _ _ _ _ _ _ hturn hc =>
      ⟨fun hdisabled => exists_faulted ((exec_notEnabled hturn hc).1 hdisabled) rfl,
        fun hflushing => exists_answered ((exec_notEnabled hturn hc).2 hflushing) rfl,
        fun henabled hfull => exists_faulted (exec_noEntry hturn henabled hc hfull) rfl⟩⟩

/-! ### The overflow policies (chapter 4) -/

/-- A write that the policy drops (R71, R72, R74, R77, R82). -/
theorem fullWrite_drop {s : State} (i : InitId) (r : Request) {a : QueueAccess} (e : EntryId)
    (hpolicy : (s.queue a.queue).config.policy = .dropNew ∨
      ((s.queue a.queue).config.policy = .displaceOldest ∧ s.eligible a.queue = none) ∨
      ((s.queue a.queue).config.policy = .divert ∧ s.divertTo a.queue = none) ∨
      ((s.queue a.queue).config.policy = .hold ∧ (s.queue a.queue).config.putWait = 0#16)) :
    fullWrite i r a e s = dropWrite i r a e s := by
  obtain h | ⟨h, hcell⟩ | ⟨h, hwalk⟩ | ⟨h, hwait⟩ := hpolicy
  · rw [fullWrite, h]
  · rw [fullWrite, h]
    dsimp only
    rw [hcell]
  · rw [fullWrite, h]
    dsimp only
    rw [hwalk]
  · rw [fullWrite, h]
    exact if_pos hwait

/-- A drop is one answer (R72): it leaves a PHANTOM binding unless it closes. -/
theorem dropWrite_answer (i : InitId) (r : Request) (a : QueueAccess) (e : EntryId) (s : State) :
    dropWrite i r a e s =
      respond i (if a.closing r.body.count && (s.queue a.queue).config.report then .fail else .ok) []
        { s.raiseLost a.queue with
            putTable := if a.closing r.body.count then s.putTable
              else s.putTable.set e (some { init := i, origin := a.queue, target := a.queue, state := .phantom }) } := by
  have hconfig : ((s.raiseLost a.queue).queue a.queue).config = (s.queue a.queue).config :=
    config_setQueue (s := s) (x := { s.queue a.queue with lost := satInc (s.queue a.queue).lost }) rfl a.queue
  rw [dropWrite]
  by_cases hclosing : a.closing r.body.count = true
  · rw [if_pos hclosing, if_pos hclosing, hclosing, hconfig, Bool.true_and]
    rfl
  · rw [if_neg hclosing, if_neg hclosing, Bool.eq_false_iff.mpr hclosing, Bool.false_and]
    rfl

/-- Settles O34. -/
theorem openingWriteDropped : Obligations.OpeningWriteDropped := by
  intro s i r a e hturn hwrite hbind henabled hfree hfull hpolicy
  have hexec : exec (.putWindowWrite i) s = .next (dropWrite i r a e s).notify := by
    rw [exec_putWindowWrite_opening hturn hwrite hbind, openingWrite_full i r henabled hfree hfull, fullWrite_drop i r e hpolicy]
  rw [dropWrite_answer] at hexec
  exact exists_answered hexec rfl (config_setQueue (s := s) rfl)

/-! ### The divert walk (R78) -/

theorem acceptable_iff {s : State} {o q : QueueId} : s.acceptable o q = true ↔ (s.queue q).state = .rest .enabled ∧
    (s.queue q).config.cellLen = (s.queue o).config.cellLen ∧ s.full q = false := by
  rw [State.acceptable, Bool.and_eq_true, Bool.and_eq_true, decide_eq_true_eq, decide_eq_true_eq, Bool.not_eq_true', and_assoc]

/-- One visit of the walk: the candidate is new, and accepts or passes the walk on to its own target. -/
theorem divertWalk_succ {s : State} {o q : QueueId} {n : Nat} {visited : List QueueId} {next : Option QueueId} :
    divertWalk s o (n + 1) visited next = some q ↔ ∃ p, next = some p ∧ p ∉ visited ∧
      ((p = q ∧ s.acceptable o p = true) ∨
        (s.acceptable o p = false ∧ divertWalk s o n (p :: visited) (s.queue p).config.divertTarget = some q)) := by
  cases next with
  | none => simp [divertWalk]
  | some p =>
    rw [divertWalk]
    by_cases hvisited : p ∈ visited
    · simp [hvisited]
    · cases haccept : s.acceptable o p <;> simp [hvisited, haccept]

/-- The walk of at most three visits, unfolded (R78). -/
theorem divertTo_eq_some_iff {s : State} {o q : QueueId} :
    s.divertTo o = some q ↔
      ((s.queue o).config.divertTarget = some q ∧ q ≠ o ∧ s.acceptable o q = true) ∨
      (∃ p, (s.queue o).config.divertTarget = some p ∧ p ≠ o ∧ ¬ s.acceptable o p = true ∧
        (s.queue p).config.divertTarget = some q ∧ q ≠ o ∧ q ≠ p ∧ s.acceptable o q = true) ∨
      (∃ p p', (s.queue o).config.divertTarget = some p ∧ p ≠ o ∧ ¬ s.acceptable o p = true ∧
        (s.queue p).config.divertTarget = some p' ∧ p' ≠ o ∧ p' ≠ p ∧ ¬ s.acceptable o p' = true ∧
        (s.queue p').config.divertTarget = some q ∧ q ≠ o ∧ q ≠ p ∧ q ≠ p' ∧ s.acceptable o q = true) := by
  rw [State.divertTo, Config.divertVisits, divertWalk_succ]
  simp only [divertWalk_succ, List.mem_cons, List.not_mem_nil, or_false, not_or, Bool.not_eq_true]
  constructor
  · rintro ⟨p, hp, hpo, (⟨rfl, haccept⟩ | ⟨hreject, p', hp', ⟨hpp, hpo'⟩, (⟨rfl, haccept⟩ | ⟨hreject', p'', hp'', ⟨h1, h2, h3⟩,
      (⟨rfl, haccept⟩ | ⟨-, hend⟩)⟩)⟩)⟩
    · exact .inl ⟨hp, hpo, haccept⟩
    · exact .inr (.inl ⟨p, hp, hpo, hreject, hp', hpo', hpp, haccept⟩)
    · exact .inr (.inr ⟨p, p', hp, hpo, hreject, hp', hpo', hpp, hreject', hp'', h3, h2, h1, haccept⟩)
    · exact absurd hend (by simp [divertWalk])
  · rintro (⟨hq, hqo, haccept⟩ | ⟨p, hp, hpo, hreject, hq, hqo, hqp, haccept⟩ |
      ⟨p, p', hp, hpo, hreject, hp', hpo', hpp, hreject', hq, hqo, hqp, hqp', haccept⟩)
    · exact ⟨q, hq, hqo, .inl ⟨rfl, haccept⟩⟩
    · exact ⟨p, hp, hpo, .inr ⟨hreject, q, hq, ⟨hqp, hqo⟩, .inl ⟨rfl, haccept⟩⟩⟩
    · exact ⟨p, hp, hpo, .inr ⟨hreject, p', hp', ⟨hpp, hpo'⟩, .inr ⟨hreject', q, hq, ⟨hqp', hqp, hqo⟩, .inl ⟨rfl, haccept⟩⟩⟩⟩

/-- The accepting queue is not the origin. -/
theorem divertTo_ne {s : State} {o q : QueueId} (h : s.divertTo o = some q) : q ≠ o := by
  obtain ⟨-, hne, -⟩ | ⟨p, -, -, -, -, hne, -⟩ | ⟨p, p', -, -, -, -, -, -, -, -, hne, -⟩ := divertTo_eq_some_iff.mp h <;>
    exact hne

/-- Settles O36. -/
theorem writeDiverted : Obligations.WriteDiverted := by
  refine ⟨fun s o q => ?_, fun s i r a e q c rest hturn hwrite hbind henabled hfree hfull hpolicy hwalk hlist => ?_⟩
  · dsimp only
    simp only [← acceptable_iff]
    exact divertTo_eq_some_iff
  · have hdiverted : fullWrite i r a e s = openWrite i r a q (some a.queue) e ((s.take i).raiseDiverted a.queue) := by
      rw [fullWrite, hpolicy]
      dsimp only
      rw [hwalk]
    have hlist' : ((s.take i).raiseDiverted a.queue).freeList = c :: rest := hlist
    have hqueue : ((s.take i).raiseDiverted a.queue).queue q = s.queue q :=
      State.setQueue_queue_ne (s := s) (divertTo_ne hwalk) _
    rw [exec_putWindowWrite_opening hturn hwrite hbind, openingWrite_full i r henabled hfree hfull, hdiverted,
      openWrite_eq_handOver i r a q (some a.queue) e hlist', State.opened, opening_composed, State.cellWord, hqueue]
    rfl

/-! ### Parking (R91) -/

theorem park_some {s : State} (kind : HeldKind) (i : InitId) (r : Request) (a : QueueAccess) (wait : BitVec 16) {k : SlotId}
    (hslot : s.freeSlot = some k) : park kind i r a wait s =
      { s with
          taken := s.taken.set i true, arrival := s.arrival ++ [k],
          slots := s.slots.set k (some { queue := a.queue, kind := kind, init := i, req := r, access := a,
                                         deadline := s.tickCount + wait.setWidth 32 }) } := by
  rw [park, hslot]
  rfl

/-- A first take that finds its queue ENABLED and empty (R53, R55, R56). -/
theorem firstTake_empty {s : State} (i : InitId) (r : Request) {a : QueueAccess} {e : EntryId}
    (henabled : (s.queue a.queue).state = .rest .enabled) (hfree : s.freeTake = some e) (hempty : s.oldest a.queue = none) :
    firstTake i r a s =
      if (s.queue a.queue).config.takeWait = 0#16 then
        respond i .ok (s.emptyData a.queue r) (s.raiseUnderrun a.queue)
      else park .take i r a (s.queue a.queue).config.takeWait s := by
  rw [firstTake, henabled]
  dsimp only
  rw [hfree]
  dsimp only
  rw [hempty]

/-- Settles O37. -/
theorem parkedOrEmpty : Obligations.ParkedOrEmpty := by
  refine ⟨fun s i r a e k hturn hwrite hbind henabled hfree hfull hpolicy hwait hslot => ?_,
    fun s i r a e k hturn hread hbind henabled hfree hempty hwait hslot => ?_,
    fun s i r a e hturn hread hbind henabled hfree hempty hwait => ?_⟩
  · have hheld : fullWrite i r a e s = park .put i r a (s.queue a.queue).config.putWait s := by
      rw [fullWrite, hpolicy]
      exact if_neg hwait
    rw [exec_putWindowWrite_opening hturn hwrite hbind, openingWrite_full i r henabled hfree hfull, hheld, park_some _ _ _ _ _ hslot]
  · rw [exec_takeWindowRead_first hturn hread hbind, firstTake_empty i r henabled hfree hempty, if_neg hwait,
      park_some _ _ _ _ _ hslot]
  · refine exists_answered (u := s.raiseUnderrun a.queue) ?_ rfl (config_setQueue rfl)
    rw [exec_takeWindowRead_first hturn hread hbind, firstTake_empty i r henabled hfree hempty, if_pos hwait]
    rfl

/-! ### Writes through a put binding (R36, R43, R44) -/

/-- A write of a put window at its turn goes through the binding that its key has (R27). -/
theorem exec_putWindowWrite_bound {s : State} {i : InitId} {r : Request} {a : QueueAccess} {e : EntryId} {b : PutBinding}
    (hturn : WindowTurn .put s i r a) (hwrite : r.body.isWrite = true) (hbind : s.putBinding i a.queue = some (e, b)) :
    exec (.putWindowWrite i) s = .next (boundWrite i r a e b s).notify := by
  rw [exec_putWindowWrite_found hturn.windowRequest hwrite, putWrite, if_neg (ne_true_of_eq_false hturn.stale), hbind]

/-- Settles O38. -/
theorem boundWrites : Obligations.BoundWrites := by
  intro s i r a e b hturn hwrite hbind
  rw [exec_putWindowWrite_bound hturn hwrite hbind]
  refine ⟨fun c hactive hrest => ?_, fun hlive hflushing => ?_, fun hphantom hrest => ?_, fun hvoided => ?_⟩
  · rw [boundWrite, hactive]
    dsimp only
    rw [if_neg (ne_true_of_eq_false hrest), composeWrite_eq_updCell]
    rfl
  · refine exists_answered (u := s) (congrArg (fun u => Host.Outcome.next (State.notify u)) ?_) rfl
    cases hstate : b.state with
    | voided => exact absurd hstate hlive
    | active c =>
      rw [boundWrite, hstate]
      exact if_pos hflushing
    | phantom =>
      rw [boundWrite, hstate]
      exact if_pos hflushing
  · by_cases hclosing : a.closing r.body.count = true
    · rw [if_pos hclosing]
      refine exists_answered (u := s.setPut e none) (congrArg (fun u => Host.Outcome.next (State.notify u)) ?_) rfl
      rw [boundWrite, hphantom]
      dsimp only
      rw [if_neg (ne_true_of_eq_false hrest), if_pos hclosing, hclosing, Bool.true_and]
    · rw [if_neg hclosing]
      refine exists_answered (u := s) (congrArg (fun u => Host.Outcome.next (State.notify u)) ?_) rfl
      rw [boundWrite, hphantom]
      dsimp only
      rw [if_neg (ne_true_of_eq_false hrest), if_neg hclosing, Bool.eq_false_iff.mpr hclosing, Bool.false_and]
      rfl
  · by_cases hclosing : a.closing r.body.count = true
    · rw [if_pos hclosing]
      refine exists_answered (u := s.setPut e none) (congrArg (fun u => Host.Outcome.next (State.notify u)) ?_) rfl
      rw [boundWrite, hvoided]
      dsimp only
      rw [if_pos hclosing]
    · rw [if_neg hclosing]
      refine exists_answered (u := s) (congrArg (fun u => Host.Outcome.next (State.notify u)) ?_) rfl
      rw [boundWrite, hvoided]
      dsimp only
      rw [if_neg hclosing]

end Sys2Proof.Machine
end

section
/-! PROOF. The acknowledgements of cell accesses, and the reads of the put, take and peek windows (chapters 2 and 3). -/

namespace Sys2Proof.Machine

/-! ### What an acknowledgement finds -/

/-- The access whose acknowledgement arrives, with the request it performs (R158, R165). -/
theorem CellAcknowledges.cellAck {s : State} {x : CellAccess} {r : Request} {a : QueueAccess} {beats : List MemBeat}
    (h : CellAcknowledges s x r a beats) : s.cellAck beats = some (x, r, a) := by
  obtain ⟨⟨⟨addr, body, owner, fate⟩, hack, howner⟩, hperforming⟩ := h
  obtain rfl : owner = .cell x := howner
  rw [State.cellAck, hack.ackLive]
  dsimp only
  rw [hperforming.performing]

/-- Removing the acknowledged request changes two fields (R165). -/
theorem exists_retireHead (s : State) :
    ∃ issueQ outstanding, retireHead s = { s with issueQ := issueQ, outstanding := outstanding } :=
  ⟨_, _, retireHead_eq s⟩

/-- What a field of a cell's record is after a change that keeps the field. -/
theorem State.cell_updCell_of {α : Type} (s : State) (c : Nat) (f : Cell → Cell) (field : Cell → α)
    (h : ∀ x, field (f x) = field x) : field ((s.updCell c f).cell c) = field (s.cell c) := by
  obtain hc | hc := Nat.lt_or_ge c s.cells.length
  · rw [State.updCell, State.setCell_cell_self s hc, h]
  · rw [State.updCell_eq, State.setCell_outside s hc]

/-- The head of the outstanding list has gone, and its cell has another record. -/
def State.retired (s : State) (c : Nat) (x : Cell) : State := { retireHead s with cells := s.cells.set c x }

theorem retireHead_updCell (s : State) (c : Nat) (f : Cell → Cell) :
    (retireHead s).updCell c f = s.retired c (f (s.cell c)) := by
  obtain ⟨iq, out, h⟩ := exists_retireHead s
  rw [State.retired, h]
  rfl

theorem State.retired_view (s : State) (c : Nat) (x : Cell) : (s.retired c x).view = s.view := retireHead_view s

theorem State.retired_config (s : State) (c : Nat) (x : Cell) (q : QueueId) :
    ((s.retired c x).queue q).config = (s.queue q).config := retireHead_config s q

theorem retireHead_tickCount (s : State) : (retireHead s).tickCount = s.tickCount := by rw [retireHead_eq]

/-! ### Acknowledgements that leave a cell where it is -/

/-- The cell of an acknowledged access that leaves it where it is: one access fewer in flight, and an erring write damages it
(R7, R8, R35). -/
def Cell.acknowledged (x : Cell) (use : CellUse) (error : Bool) : Cell :=
  { x with inFlight := x.inFlight - 1, damaged := (error && decide (use = .compose false)) || x.damaged }

/-- Each of the four acknowledgements answers its access on the updated cell and tests the flush (R35, R45, R57, R59). -/
theorem exec_accessAck {s : State} {x : CellAccess} {r : Request} {a : QueueAccess} {beats : List MemBeat}
    (hack : CellAcknowledges s x r a beats)
    (huse : x.use = .compose false ∨ x.use = .putRead ∨ x.use = .take false ∨ (x.use = .take true ∧ anyError beats = true)) :
    exec (ackCommand x.use beats) s = .next (tryFlushOwner (s.cell x.cell).owner (answerAccess x r a beats
      (s.retired x.cell ((s.cell x.cell).acknowledged x.use (anyError beats))))).notify := by
  have hread (hno : x.use ≠ .compose false) : decFlight x.cell (retireHead s) =
      s.retired x.cell ((s.cell x.cell).acknowledged x.use (anyError beats)) := by
    rw [decFlight, retireHead_updCell, Cell.acknowledged, decide_eq_false hno, Bool.and_false, Bool.false_or]
  obtain huse | huse | huse | ⟨huse, herror⟩ := huse
  · rw [huse]
    change execCompositionWriteAck beats s = _
    rw [execCompositionWriteAck, hack.cellAck]
    refine (if_pos huse).trans (congrArg (fun u => finish (tryFlushOwner _ (answerAccess x r a beats u))) ?_)
    cases anyError beats
    · exact (if_neg Bool.false_ne_true).trans (retireHead_updCell s x.cell _)
    · refine (if_pos rfl).trans ((State.updCell_updCell _ _ _ _).trans ((retireHead_updCell s x.cell _).trans ?_))
      rfl
  · rw [huse]
    change execPutWindowReadAck beats s = _
    rw [execPutWindowReadAck, hack.cellAck]
    refine (if_pos huse).trans (congrArg (fun u => finish (tryFlushOwner _ (answerAccess x r a beats u))) ?_)
    rw [hread (by rw [huse]; decide), huse]
  · rw [huse]
    change execTakeReadAck beats s = _
    rw [execTakeReadAck, hack.cellAck]
    refine (if_pos huse).trans (congrArg (fun u => finish (tryFlushOwner _ (answerAccess x r a beats u))) ?_)
    rw [hread (by rw [huse]; decide), huse]
  · rw [huse]
    change execClosingReadAck beats s = _
    rw [execClosingReadAck, hack.cellAck]
    refine (if_pos huse).trans ?_
    rw [closeReadAck, answerAccess, hread (by rw [huse]; decide), herror, huse]
    rfl

/-- Settles O39. -/
theorem accessAcknowledged : Obligations.AccessAcknowledged := by
  intro s x r a beats hack huse
  refine ⟨_, exec_accessAck hack huse, fun herror => ?_, fun herror => ?_⟩
  · rw [anyError, answerAccess, anyError, herror, if_neg Bool.false_ne_true]
    refine ⟨respond_answered_of_view x.init .ok (r.body.returned beats) (s.retired_view _ _) (s.retired_config _ _), ?_⟩
    refine (respond_eq ..).trans ?_
    rw [State.retired, Cell.acknowledged, Bool.false_and, Bool.false_or]
    rfl
  · rw [anyError, answerAccess, anyError, herror, if_pos rfl, memoryFault]
    refine ⟨respondFault_answered_of_view .memory x.init r.addr (some a.aperture) (some x.queue) (r.body.fill x.pattern)
      (s.retired_view _ _) (s.retired_config _ _), ?_⟩
    refine (respondFault_eq ..).trans ?_
    rw [State.faultRecord_congr (s := s) (u := s.retired _ _) (retireHead_tickCount s), State.retired, Cell.acknowledged,
      Bool.true_and]
    rfl

/-! ### The acknowledgement of a closing write (R38, R42) -/

theorem exec_closingWriteAck {s : State} {x : CellAccess} {r : Request} {a : QueueAccess} {beats : List MemBeat}
    (hack : CellAcknowledges s x r a beats) (huse : x.use = .compose true) :
    exec (.closingWriteAck beats) s = .next (closeAck x r a beats s).notify := by
  change execClosingWriteAck beats s = _
  rw [execClosingWriteAck, hack.cellAck]
  exact if_pos huse

/-- The cell and the entry of an acknowledged closing write: one access fewer in flight, and the entry is free. -/
def State.closing (s : State) (c : Nat) (e : EntryId) : State :=
  { s.retired c { s.cell c with inFlight := (s.cell c).inFlight - 1 } with putTable := s.putTable.set e none }

theorem freePutBinding_retired {s : State} {c : Nat} {i : InitId} {q : QueueId} {e : EntryId}
    (hentry : s.putEntry i q = some e) : freePutBinding i q (decFlight c (retireHead s)) = s.closing c e := by
  have hsame : (s.retired c { s.cell c with inFlight := (s.cell c).inFlight - 1 }).putEntry i q = some e := by
    obtain ⟨iq, out, h⟩ := exists_retireHead s
    rw [State.retired, h]
    exact hentry
  rw [decFlight, retireHead_updCell, freePutBinding, hsame]
  obtain ⟨iq, out, h⟩ := exists_retireHead s
  rw [State.closing, State.retired, h]
  rfl

theorem decFlight_cell_damaged (s : State) (c : Nat) :
    ((decFlight c (retireHead s)).cell c).damaged = (s.cell c).damaged := by
  refine (State.cell_updCell_of (retireHead s) c (fun x => { x with inFlight := x.inFlight - 1 }) Cell.damaged
    fun _ => rfl).trans ?_
  rw [retireHead_eq]
  rfl

theorem closing_cell_damaged (s : State) (c : Nat) (e : EntryId) : ((s.closing c e).cell c).damaged = (s.cell c).damaged := by
  refine Eq.trans ?_ (decFlight_cell_damaged s c)
  rw [decFlight, retireHead_updCell]
  rfl

/-- What the discard and the commit read of the state is that of the state before the acknowledgement. -/
theorem closing_reads (s : State) (c : Nat) (e : EntryId) : (s.closing c e).freeList = s.freeList ∧
    (s.closing c e).queues = s.queues ∧ (s.closing c e).flags = s.flags := by
  obtain ⟨iq, out, h⟩ := exists_retireHead s
  rw [State.closing, State.retired, h]
  exact ⟨rfl, rfl, rfl⟩

theorem decOpen_appendFree (s : State) (c : Nat) (q : QueueId) :
    decOpen q (appendFree c s) =
      { s with
          cells := s.cells.set c Cell.freed, freeList := s.freeList ++ [c],
          queues := s.queues.set q { s.queues[q] with openCount := s.queues[q].openCount - 1 } } := rfl

/-- A discarded cell (R42): it has joined the Free List, and its target's open count has fallen. -/
def State.discarded (s : State) (c : Nat) (e : EntryId) (q : QueueId) : State :=
  { retireHead s with
      cells := s.cells.set c Cell.freed, freeList := s.freeList ++ [c],
      queues := s.queues.set q { s.queue q with openCount := (s.queue q).openCount - 1 },
      putTable := s.putTable.set e none }

theorem discarded_eq (s : State) (c : Nat) (e : EntryId) (q : QueueId) :
    decOpen q (appendFree c (s.closing c e)) = s.discarded c e q := by
  obtain ⟨hfree, hqueues, -⟩ := closing_reads s c e
  have hcells : (s.closing c e).cells.set c Cell.freed = s.cells.set c Cell.freed := List.set_set ..
  rw [decOpen_appendFree, hcells, hfree, hqueues]
  rfl

theorem State.discarded_config (s : State) (c : Nat) (e : EntryId) (q p : QueueId) :
    ((s.discarded c e q).queue p).config = (s.queue p).config :=
  config_setQueue (s := s) (x := { s.queue q with openCount := (s.queue q).openCount - 1 }) rfl p

/-- Settles O41. -/
theorem damagedDiscarded : Obligations.DamagedDiscarded := by
  intro s x r a beats e hack hwrite huse hbad hentry
  have hdiscard : (anyError beats || ((s.closing x.cell e).cell x.cell).damaged) = true := by
    rw [closing_cell_damaged, Bool.or_eq_true]
    exact hbad
  refine ⟨memoryFault x r a (s.discarded x.cell e x.queue), ?_, ?_, ?_⟩
  · rw [exec_closingWriteAck hack huse, closeAck, freePutBinding_retired hentry, if_pos hdiscard, discarded_eq]
  · rw [memoryFault, Body.fill_write hwrite]
    exact respondFault_answered_of_view .memory x.init r.addr (some a.aperture) (some x.queue) [] (retireHead_view s)
      (s.discarded_config _ _ _)
  · rw [memoryFault]
    refine (respondFault_eq ..).trans ?_
    rw [State.faultRecord_congr (s := s) (u := s.discarded _ _ _) (retireHead_tickCount s)]
    rfl

theorem allWords_getLsbD (c : CellLen) (w : Nat) : (allWords c).getLsbD w = decide (w < 2 ^ c.val) := by
  have hle : wordsOf c ≤ 32 := by
    revert c
    decide
  have hwords : wordsOf c = 2 ^ c.val := rfl
  rw [allWords, BitVec.getLsbD_ushiftRight, BitVec.getLsbD_allOnes, decide_eq_decide]
  omega

/-- A message is complete when each of its words is written (R6, R38). -/
theorem complete_iff (c : CellLen) (ws : BitVec 32) :
    ws &&& allWords c = allWords c ↔ ∀ w < 2 ^ c.val, ws.getLsbD w = true := by
  constructor
  · intro h w hw
    have hbit := congrArg (BitVec.getLsbD · w) h
    simpa [BitVec.getLsbD_and, allWords_getLsbD, hw] using hbit
  · intro h
    refine BitVec.eq_of_getLsbD_eq fun w _ => ?_
    rw [BitVec.getLsbD_and, allWords_getLsbD]
    by_cases hw : w < 2 ^ c.val
    · rw [h w hw, Bool.true_and]
    · rw [decide_eq_false hw, Bool.and_false]

/-- A committed cell (R38, R39, R147): QUEUED at the tail of its target's list. -/
def State.committing (s : State) (c : Nat) (e : EntryId) (q : QueueId) (ws : BitVec 32) : State :=
  { retireHead s with
      cells := s.cells.set c
        { s.cell c with
            state := .queued, sequence := some (s.queue q).nextSeq, written := none,
            complete := decide (∀ w < 2 ^ (s.queue q).config.cellLen.val, ws.getLsbD w = true),
            inFlight := (s.cell c).inFlight - 1 },
      queues := s.queues.set q
        { s.queue q with
            nextSeq := (s.queue q).nextSeq + 1#16, committed := (s.queue q).committed ++ [c],
            openCount := (s.queue q).openCount - 1 },
      putTable := s.putTable.set e none,
      flags := if 0 < (s.queue q).config.watermark ∧ (s.queue q).committed.length + 1 = (s.queue q).config.watermark then
        s.flags.set q { s.flags[q] with watermark := true } else s.flags }

theorem checkWatermark_eq (s : State) (q : QueueId) :
    s.checkWatermark q =
      { s with
          flags := if 0 < (s.queue q).config.watermark ∧ (s.queue q).committed.length = (s.queue q).config.watermark then
            s.flags.set q { s.flags[q] with watermark := true } else s.flags } := by
  unfold State.checkWatermark
  split <;> rfl

/-- The context of the target of a commit. -/
def QueueCtx.committing (x : QueueCtx) (c : Nat) : QueueCtx :=
  { x with nextSeq := x.nextSeq + 1#16, committed := x.committed ++ [c], openCount := x.openCount - 1 }

/-- The record of a committed cell. -/
def Cell.committing (x : Cell) (seq : BitVec 16) (len : CellLen) : Cell :=
  { x with state := .queued, sequence := some seq, written := none,
           complete := decide (x.written.map (· &&& allWords len) = some (allWords len)) }

theorem commitCell_eq (s : State) (q : QueueId) (c : Nat) :
    commitCell q c s =
      { s with
          cells := s.cells.set c ((s.cell c).committing (s.queues[q]).nextSeq (s.queues[q]).config.cellLen),
          queues := s.queues.set q ((s.queues[q]).committing c),
          flags := if 0 < (s.queues[q]).config.watermark ∧
              (s.queues[q]).committed.length + 1 = (s.queues[q]).config.watermark then
            s.flags.set q { s.flags[q] with watermark := true } else s.flags } := by
  have hlength : ((s.queues[q]).committed ++ [c]).length = (s.queues[q]).committed.length + 1 := List.length_append
  have hself (u : State) : (u.setQueue q ((s.queues[q]).committing c)).queue q = (s.queues[q]).committing c :=
    State.setQueue_queue_self u q _
  refine (checkWatermark_eq ((s.setCell c ((s.cell c).committing (s.queues[q]).nextSeq
    (s.queues[q]).config.cellLen)).setQueue q ((s.queues[q]).committing c)) q).trans ?_
  rw [hself, ← hlength]
  rfl

/-- A number outside the pool has no written-word set. -/
theorem State.lt_length_of_written {s : State} {c : Nat} {ws : BitVec 32} (h : (s.cell c).written = some ws) :
    c < s.cells.length := by
  by_contra hout
  have hfreed : s.cell c = Cell.freed := List.getD_eq_default _ _ (Nat.le_of_not_lt hout)
  rw [hfreed] at h
  cases h

theorem closing_cell {s : State} {c : Nat} (hc : c < s.cells.length) (e : EntryId) :
    (s.closing c e).cell c = { s.cell c with inFlight := (s.cell c).inFlight - 1 } :=
  State.setCell_cell_self s hc _

theorem commitCell_closing {s : State} {c : Nat} {e : EntryId} {q : QueueId} {ws : BitVec 32}
    (hwritten : (s.cell c).written = some ws) : commitCell q c (s.closing c e) = s.committing c e q ws := by
  obtain ⟨-, hqueues, hflags⟩ := closing_reads s c e
  have hcells (y : Cell) : (s.closing c e).cells.set c y = s.cells.set c y := List.set_set ..
  have hcomplete : decide ((some ws).map (· &&& allWords (s.queues[q]).config.cellLen) =
      some (allWords (s.queues[q]).config.cellLen)) =
      decide (∀ w < 2 ^ (s.queue q).config.cellLen.val, ws.getLsbD w = true) := by
    rw [decide_eq_decide, Option.map_some, Option.some.injEq, complete_iff]
    rfl
  rw [commitCell_eq, closing_cell (State.lt_length_of_written hwritten), hcells, hqueues, hflags, Cell.committing]
  dsimp only
  rw [hwritten, hcomplete]
  unfold State.closing State.retired State.committing
  rfl

theorem State.committing_config (s : State) (c : Nat) (e : EntryId) (q : QueueId) (ws : BitVec 32) (p : QueueId) :
    ((s.committing c e q ws).queue p).config = (s.queue p).config :=
  config_setQueue (s := s) (q := q)
    (x := { s.queue q with
              nextSeq := (s.queue q).nextSeq + 1#16, committed := (s.queue q).committed ++ [c],
              openCount := (s.queue q).openCount - 1 }) rfl p

/-- Settles O40. -/
theorem closingWriteCommits : Obligations.ClosingWriteCommits := by
  intro s x r a beats e ws hack hwrite huse herror hsound hwritten hentry
  have hcommit : ¬ (anyError beats || ((s.closing x.cell e).cell x.cell).damaged) = true := by
    rw [closing_cell_damaged, hsound, Bool.or_false]
    exact ne_true_of_eq_false herror
  refine ⟨respond x.init .ok [] (s.committing x.cell e x.queue ws), ?_, ?_, respond_eq ..⟩
  · rw [exec_closingWriteAck hack huse, closeAck, freePutBinding_retired hentry, if_neg hcommit, commitCell_closing hwritten]
  · exact respond_answered_of_view x.init .ok [] (retireHead_view s) (s.committing_config _ _ _ _)

/-! ### Reads of the put window (R45, R46) -/

/-- A command whose result is a response on the state itself. -/
theorem exists_replied {s : State} {out : Host.Outcome State Fault Refusal} {i : InitId} {code : RespCode} {data : List Word}
    (hout : out = .next (respond i code data s).notify) :
    ∃ t, out = .next t ∧ t = (s.port t).notify ∧ Answered i code data s t :=
  ⟨_, hout, congrArg State.notify (respond_eq ..), (respond_answered i code data s).notify⟩

/-- A read of a put window at its turn (R27, R126). -/
theorem exec_putWindowRead_turn {s : State} {i : InitId} {r : Request} {a : QueueAccess} (hturn : WindowTurn .put s i r a)
    (hread : r.body.isWrite = false) :
    (s.putBinding i a.queue = none → exec (.putWindowRead i) s = .next (answerEmpty i r a.queue s).notify) ∧
    ∀ e b, s.putBinding i a.queue = some (e, b) →
      (∀ c, b.state = .active c → exec (.putWindowRead i) s = .next (if (s.queue b.target).isFlushing then
          answerEmpty i r b.target s else putRead i r a b.target c (s.take i)).notify) ∧
      (b.state = .phantom → exec (.putWindowRead i) s = .next (answerEmpty i r b.target s).notify) ∧
      (b.state = .voided → exec (.putWindowRead i) s = .next (respond i .ok (s.emptyData b.target r) s).notify) := by
  have hstale : ¬ s.stale a = true := ne_true_of_eq_false hturn.stale
  rw [exec_putWindowRead_found hturn.windowRequest hread, putWindowRead, if_neg hstale]
  refine ⟨fun hbind => by rw [hbind], fun e b hbind => ?_⟩
  rw [hbind]
  exact ⟨fun c h => by dsimp only; rw [h], fun h => by dsimp only; rw [h], fun h => by dsimp only; rw [h]⟩

/-- Settles O42. -/
theorem putWindowReads : Obligations.PutWindowReads := by
  intro s i r a hturn hread
  obtain ⟨hunbound, hbound⟩ := exec_putWindowRead_turn hturn hread
  refine ⟨fun hbind => exists_replied (hunbound hbind), fun e b hbind => ?_⟩
  obtain ⟨hactive, hphantom, hvoided⟩ := hbound e b hbind
  refine ⟨fun h => exists_replied (hvoided h), fun hlive hempty => ?_, fun c h hrest => ?_⟩
  · cases hstate : b.state with
    | voided => exact absurd hstate hlive
    | phantom => exact exists_replied (hphantom hstate)
    | active c =>
      have hflushing : (s.queue b.target).isFlushing = true := hempty.resolve_left (by rw [hstate]; exact PutState.noConfusion)
      have hexec := hactive c hstate
      rw [if_pos hflushing] at hexec
      exact exists_replied hexec
  · have hexec := hactive c h
    rw [if_neg (ne_true_of_eq_false hrest)] at hexec
    exact hexec

/-! ### Reads of the take window (R53, R54, R57, R58) -/

/-- A take read counts an access in flight for its cell and hands the memory request over (R57). -/
theorem takeRead_setCell (i : InitId) (r : Request) (a : QueueAccess) (c : Nat) (x : Cell) (s : State) :
    takeRead i r a c (s.setCell c x) =
      handOver (s.cellWord i r a a.queue c (.take (a.closing r.body.count)))
        (s.setCell c { x with inFlight := x.inFlight + 1 }) := by
  rw [takeRead, incFlight, State.updCell_setCell]
  rfl

/-- A first take of an ENABLED queue with an available cell, with a free entry (R53, R54). -/
theorem firstTake_some {s : State} (i : InitId) (r : Request) {a : QueueAccess} {e : EntryId} {c : Nat}
    (henabled : (s.queue a.queue).state = .rest .enabled) (hfree : s.freeTake = some e) (hcell : s.oldest a.queue = some c) :
    firstTake i r a s = bindTake i r a e c (s.take i) := by
  rw [firstTake, henabled]
  dsimp only
  rw [hfree]
  dsimp only
  rw [hcell]

/-- A take that binds a cell: the cell becomes TAKEN under an ACTIVE binding and is read (R54). -/
theorem bindTake_eq_handOver (i : InitId) (r : Request) (a : QueueAccess) (e : EntryId) (c : Nat) (s : State) :
    bindTake i r a e c s =
      handOver (s.cellWord i r a a.queue c (.take (a.closing r.body.count)))
        { s with
            cells := s.cells.set c { s.cell c with state := .taken, inFlight := (s.cell c).inFlight + 1 },
            takeTable := s.takeTable.set e (some { init := i, queue := a.queue, state := .active c }) } :=
  takeRead_setCell i r a c { s.cell c with state := .taken }
    (s.setTake e (some { init := i, queue := a.queue, state := .active c }))

/-- Settles O43. -/
theorem takeReads : Obligations.TakeReads := by
  refine ⟨oldest_eq_some_iff, fun s i r a e c hturn hread hbind henabled hfree hcell => ?_,
    fun s i r a e b c hturn hread hbind hactive => ?_⟩
  · rw [exec_takeWindowRead_first hturn hread hbind, firstTake_some i r henabled hfree hcell, bindTake_eq_handOver]
    rfl
  · rw [exec_takeWindowRead_bound hturn hread hbind, boundTake, hactive]
    dsimp only
    refine ⟨fun hrest => ?_, fun hflushing => ?_⟩
    · rw [if_neg (ne_true_of_eq_false hrest)]
      rfl
    · rw [if_pos hflushing]
      exact exists_replied rfl

/-! ### The acknowledgement of a closing read (R61) -/

theorem exec_closingReadAck {s : State} {x : CellAccess} {r : Request} {a : QueueAccess} {beats : List MemBeat}
    (hack : CellAcknowledges s x r a beats) (huse : x.use = .take true) :
    exec (.closingReadAck beats) s = .next (closeReadAck x r a beats s).notify := by
  change execClosingReadAck beats s = _
  rw [execClosingReadAck, hack.cellAck]
  exact if_pos huse

/-- The cell of a closed take has left its queue's list and its binding (R61). -/
def unlistCell (x : CellAccess) (e : EntryId) (s : State) : State :=
  (s.setTake e none).updQueue x.queue (fun y => { y with committed := y.committed.erase x.cell })

theorem retireCell_eq {x : CellAccess} {s : State} {e : EntryId} (hentry : s.takeEntry x.init x.queue = some e) :
    retireCell x s = if (s.cell x.cell).pins = 0 then offerRoom (appendFree x.cell (unlistCell x e s))
      else unlistCell x e s := by
  rw [retireCell, freeTakeBinding, hentry]
  rfl

/-- The retirement before the room is offered. -/
def retirement (x : CellAccess) (e : EntryId) (s : State) : State :=
  if (s.cell x.cell).pins = 0 then appendFree x.cell (unlistCell x e s) else unlistCell x e s

/-- A response after an acknowledgement: what it leaves of the state. -/
theorem respond_retired (i : InitId) (code : RespCode) (data : List Word) (s : State) (c : Nat) (y : Cell) :
    ∃ v, respond i code data (s.retired c y) = v ∧ v = (s.retired c y).port v ∧ Answered i code data s v :=
  ⟨_, rfl, respond_eq .., respond_answered_of_view i code data (s.retired_view c y) (s.retired_config c y)⟩

/-- The retirement of an acknowledged closing read keeps the answer, and frees the entry and, without a pin, the cell. -/
theorem retirement_eq {s v : State} {x : CellAccess} {e : EntryId} {y : Cell} (hv : v = (s.retired x.cell y).port v)
    (hpins : (v.cell x.cell).pins = (s.cell x.cell).pins) :
    retirement x e v = { (retireHead s).port v with
      takeTable := s.takeTable.set e none,
      queues := s.queues.set x.queue
        { s.queue x.queue with committed := (s.queue x.queue).committed.erase x.cell },
      cells := s.cells.set x.cell (if (s.cell x.cell).pins = 0 then Cell.freed else y),
      freeList := if (s.cell x.cell).pins = 0 then s.freeList ++ [x.cell] else s.freeList } := by
  have hcells : (s.cells.set x.cell y).set x.cell Cell.freed = s.cells.set x.cell Cell.freed := List.set_set ..
  obtain ⟨iq, out, h⟩ := exists_retireHead s
  rw [State.retired, h] at hv
  rw [retirement, hpins, h]
  split
  · rw [hv]
    refine Eq.trans ?_ (congrArg (fun l => { ({ s with issueQ := iq, outstanding := out } : State).port v with
      takeTable := s.takeTable.set e none,
      queues := s.queues.set x.queue
        { s.queue x.queue with committed := (s.queue x.queue).committed.erase x.cell },
      cells := l, freeList := s.freeList ++ [x.cell] }) hcells)
    rfl
  · rw [hv]
    rfl

/-- Settles O45. -/
theorem closingReadRetires : Obligations.ClosingReadRetires := by
  intro s x r a beats e hack hread huse herror hentry
  obtain ⟨v, hrespond, hv, hanswer⟩ := respond_retired x.init .ok (beats.map MemBeat.data) s x.cell
    { s.cell x.cell with inFlight := (s.cell x.cell).inFlight - 1 }
  have hcells : v.cells = s.cells.set x.cell { s.cell x.cell with inFlight := (s.cell x.cell).inFlight - 1 } := by
    rw [hv]
    rfl
  have hpins : (v.cell x.cell).pins = (s.cell x.cell).pins := by
    refine Eq.trans ?_ (State.cell_updCell_of s x.cell (fun y => { y with inFlight := y.inFlight - 1 }) Cell.pins fun _ => rfl)
    rw [State.cell, hcells]
    rfl
  have hkey : v.takeEntry x.init x.queue = some e := by
    obtain ⟨iq, out, h⟩ := exists_retireHead s
    rw [hv, State.retired, h]
    exact hentry
  have hframe := retirement_eq (e := e) hv hpins
  refine ⟨retirement x e v, ?_, ?_, ?_⟩
  · rw [exec_closingReadAck hack huse, closeReadAck, anyError, if_neg (ne_true_of_eq_false herror), decFlight,
      retireHead_updCell, Body.returned_read hread, hrespond, retireCell_eq hkey, hpins, retirement, hpins]
    split <;> rfl
  · rw [hframe]
    exact hanswer
  · refine hframe.trans ?_
    have hport : (retireHead s).port (retirement x e v) = (retireHead s).port v := by
      rw [hframe]
      rfl
    rw [hport]

/-! ### The peek window (R67, R68) -/

/-- A peek of an ENABLED queue at its turn (R67). -/
theorem exec_peekRead_enabled {s : State} {i : InitId} {r : Request} {a : QueueAccess} (hturn : WindowTurn .peek s i r a)
    (hread : r.body.isWrite = false) (henabled : (s.queue a.queue).state = .rest .enabled) :
    (∀ c, s.oldest a.queue = some c → exec (.peekRead i) s = .next (pinAndRead i r a c (s.take i)).notify) ∧
    (s.oldest a.queue = none → exec (.peekRead i) s = .next (respond i .ok (s.emptyData a.queue r) s).notify) := by
  have hstale : ¬ s.stale a = true := ne_true_of_eq_false hturn.stale
  rw [exec_peekRead_found hturn.windowRequest hread, peekWindowRead, if_neg hstale, henabled]
  dsimp only
  exact ⟨fun c h => by rw [h], fun h => by rw [h]⟩

/-- The last pin of a retired cell has fallen (R9). -/
def State.unpinned (s : State) (c : Nat) : State :=
  { retireHead s with cells := s.cells.set c Cell.freed, freeList := s.freeList ++ [c] }

theorem State.lt_length_of_taken {s : State} {c : Nat} (h : (s.cell c).state = .taken) : c < s.cells.length := by
  by_contra hout
  have hfreed : s.cell c = Cell.freed := List.getD_eq_default _ _ (Nat.le_of_not_lt hout)
  rw [hfreed] at h
  cases h

theorem heldOut_iff {s : State} {q : QueueId} {c : Nat} {y : Cell} :
    s.heldOut q c y = true ↔ y.state = .taken ∧ y.owner = some q ∧ c ∉ (s.queue q).committed := by
  simp [State.heldOut, and_assoc]

/-- A cell with one pin fewer (R9). -/
def Cell.unpinnedOnce (x : Cell) : Cell := { x with pins := x.pins - 1 }

/-- The pin that falls is the last of a retired cell. -/
theorem lastPin_iff {s : State} {c : Nat} {q : QueueId} (howner : (s.cell c).owner = some q) :
    (decide ((s.cell c).unpinnedOnce.pins = 0) && s.heldOut q c (s.cell c).unpinnedOnce) = true ↔ LastPin s c := by
  rw [Bool.and_eq_true, decide_eq_true_eq, heldOut_iff]
  refine and_congr_right fun _ => and_congr_right fun _ => ⟨fun h => ⟨q, h⟩, fun ⟨p, hp, hnot⟩ => ?_⟩
  obtain rfl : q = p := Option.some.inj (howner.symm.trans hp)
  exact ⟨hp, hnot⟩

/-- A falling pin puts the cell on the Free List exactly when it is the last one of a retired cell (R9). -/
theorem releasePin_lastPin (s : State) (c : Nat) :
    (LastPin s c → releasePin c s =
      ({ s with cells := s.cells.set c Cell.freed, freeList := s.freeList ++ [c] }, true)) ∧
    (¬ LastPin s c → releasePin c s = (s.setCell c (s.cell c).unpinnedOnce, false)) := by
  have hupd : s.updCell c (fun x => { x with pins := x.pins - 1 }) = s.setCell c (s.cell c).unpinnedOnce := rfl
  have hfree : appendFree c (s.setCell c (s.cell c).unpinnedOnce) =
      { s with cells := s.cells.set c Cell.freed, freeList := s.freeList ++ [c] } := by
    simp [appendFree, State.setCell]
  unfold releasePin
  rw [hupd]
  dsimp only
  rw [← hfree]
  obtain hc | hc := Nat.lt_or_ge c s.cells.length
  · have hsame : (s.cell c).unpinnedOnce.owner = (s.cell c).owner := rfl
    rw [State.setCell_cell_self s hc, hsame]
    cases howner : (s.cell c).owner with
    | none => exact ⟨fun ⟨_, _, q, hq, _⟩ => absurd (howner.symm.trans hq) (by simp), fun _ => rfl⟩
    | some q => exact ⟨fun h => if_pos ((lastPin_iff howner).mpr h), fun h => if_neg (mt (lastPin_iff howner).mp h)⟩
  · have hfreed : s.cell c = Cell.freed := List.getD_eq_default _ _ hc
    have hcell : (s.setCell c (s.cell c).unpinnedOnce).cell c = Cell.freed :=
      List.getD_eq_default _ _ ((List.length_set ..).trans_le hc)
    refine ⟨fun ⟨_, hstate, _⟩ => absurd hstate (by rw [hfreed]; decide), fun _ => ?_⟩
    rw [hcell]
    rfl

/-- The same after an acknowledgement has left the outstanding list. -/
theorem releasePin_retireHead (s : State) (c : Nat) :
    (LastPin s c → releasePin c (retireHead s) = (s.unpinned c, true)) ∧
    (¬ LastPin s c → releasePin c (retireHead s) = (s.retired c (s.cell c).unpinnedOnce, false)) := by
  obtain ⟨iq, out, h⟩ := exists_retireHead s
  rw [State.unpinned, State.retired, h]
  exact releasePin_lastPin { s with issueQ := iq, outstanding := out } c

theorem exec_peekAck {s : State} {x : CellAccess} {r : Request} {a : QueueAccess} {beats : List MemBeat}
    (hack : CellAcknowledges s x r a beats) (huse : x.use = .peek) :
    exec (.peekAck beats) s = .next (peekAnswer x r a beats s).notify := by
  change execPeekAck beats s = _
  rw [execPeekAck, hack.cellAck]
  exact if_pos huse

/-- The answer of an acknowledged read of a cell, given on a state that has the view of `s` (R57, R68). -/
theorem answerAccess_eq {s u : State} {x : CellAccess} {r : Request} {a : QueueAccess} {beats : List MemBeat}
    (hread : r.body.isWrite = false) (hview : u.view = s.view) (hconfig : ∀ q, (u.queue q).config = (s.queue q).config)
    (htick : u.tickCount = s.tickCount) :
    Answered x.init (if anyError beats then .fault else .ok)
      (if anyError beats then r.body.fill x.pattern else beats.map MemBeat.data) s (answerAccess x r a beats u) ∧
    answerAccess x r a beats u = (if anyError beats then
        (u.port (answerAccess x r a beats u)).appendRecord
          (s.faultRecord .memory x.init r.addr (some a.aperture) (some x.queue))
      else u.port (answerAccess x r a beats u)) := by
  rw [answerAccess]
  cases anyError beats
  · simp only [Bool.false_eq_true, if_false]
    rw [Body.returned_read hread]
    exact ⟨respond_answered_of_view x.init .ok _ hview hconfig, respond_eq ..⟩
  · simp only [if_true]
    rw [memoryFault, ← State.faultRecord_congr htick]
    exact ⟨respondFault_answered_of_view .memory x.init r.addr (some a.aperture) (some x.queue) _ hview hconfig,
      respondFault_eq ..⟩

/-- Settles O46. -/
theorem peekReads : Obligations.PeekReads := by
  refine ⟨fun s i r a hturn hread henabled => ?_, fun s x r a beats hack hread huse => ?_⟩
  · obtain ⟨hsome, hnone⟩ := exec_peekRead_enabled hturn hread henabled
    exact ⟨fun c hc => hsome c hc, fun h => exists_replied (hnone h)⟩
  · obtain ⟨hlast, hmore⟩ := releasePin_retireHead s x.cell
    by_cases h : LastPin s x.cell
    · obtain ⟨hanswer, hframe⟩ := answerAccess_eq (s := s) (u := s.unpinned x.cell) (x := x) (a := a) (beats := beats) hread
        (retireHead_view s) (retireHead_config s) (retireHead_tickCount s)
      refine ⟨answerAccess x r a beats (s.unpinned x.cell), _, offerRoom (answerAccess x r a beats (s.unpinned x.cell)), ?_,
        fun _ => rfl, fun hn => absurd h hn, hanswer, hframe, fun _ => rfl, fun hn => absurd h hn⟩
      rw [exec_peekAck hack huse, peekAnswer, hlast h]
      rfl
    · obtain ⟨hanswer, hframe⟩ := answerAccess_eq (s := s)
        (u := s.retired x.cell (s.cell x.cell).unpinnedOnce) (x := x) (a := a) (beats := beats) hread
        (retireHead_view s) (retireHead_config s) (retireHead_tickCount s)
      refine ⟨_, _, _, ?_, fun hl => absurd hl h, fun _ => rfl, hanswer, hframe, fun hl => absurd hl h, fun _ => rfl⟩
      rw [exec_peekAck hack huse, peekAnswer, hmore h]
      rfl

end Sys2Proof.Machine
end

section
/-! PROOF. Writes of control words, the expiry of held requests, and the completion of a flush (R47, R63, R97, R98, R111,
R127). -/

namespace Sys2Proof.Machine

/-! ### Control-page writes -/

/-- The beats of a burst act in order, each at its word (R127). -/
theorem controlBeats_eq_foldl (i : InitId) (q : QueueId) (first n : Nat) (bs : List WriteBeat) (s : State) :
    controlBeats i q (first + n) bs s =
      (bs.zipIdx n).foldl (fun v p => controlBeat i q (first + p.2) p.1 v) s := by
  induction bs generalizing n s with
  | nil => rfl
  | cons b bs ih =>
    rw [controlBeats, Nat.add_assoc, ih, List.zipIdx_cons, List.foldl_cons]

/-- A burst covers a word when one of its beats stands at it. -/
theorem words_contains_iff (a : QueueAccess) (n w : Nat) : (a.words n).contains w = true ↔ ∃ j < n, a.first + j = w := by
  rw [List.contains_iff_mem, QueueAccess.words, List.mem_map]
  exact exists_congr fun j => and_congr_left' List.mem_range

/-- A control-page write whose words pass the test of its row is performed (R127). -/
theorem controlWriteIf_found {s : State} {i : InitId} {r : Request} {a : QueueAccess} {bs : List WriteBeat}
    (hfound : s.windowRequest .control i = some (r, a)) (hbody : r.body = .write bs) {p : List Nat → Bool}
    (hp : p (a.words bs.length) = true) :
    controlWriteIf p i s = .next (performControlWrite i a bs s).notify := by
  obtain ⟨addr, body⟩ := r
  obtain rfl : body = .write bs := hbody
  rw [controlWriteIf, State.controlWrite, hfound]
  exact if_pos hp

/-- Settles O47. -/
theorem controlWritesPerformed : Obligations.ControlWritesPerformed := by
  intro s i r a bs c hdrain hcurrent hwindow hbody hc
  have hfound := windowRequest_eq_some hdrain hcurrent hwindow
  have hexec : exec c s = .next (performControlWrite i a bs s).notify := by
    obtain ⟨rfl, hword⟩ | ⟨rfl, hword⟩ | ⟨rfl, hword⟩ | ⟨rfl, hnone⟩ := hc
    · exact controlWriteIf_found hfound hbody (p := fun ws => ws.contains 2) ((words_contains_iff ..).mpr hword)
    · exact controlWriteIf_found hfound hbody (p := fun ws => ws.contains 3) ((words_contains_iff ..).mpr hword)
    · exact controlWriteIf_found hfound hbody (p := fun ws => ws.contains 4) ((words_contains_iff ..).mpr hword)
    · refine controlWriteIf_found hfound hbody (p := fun ws => ws.all fun w => !effectWords.contains w) ?_
      refine List.all_eq_true.mpr fun w hw => ?_
      obtain ⟨j, hj, rfl⟩ := (words_contains_iff a bs.length w).mp (List.contains_iff_mem.mpr hw)
      rw [Bool.not_eq_true', ← Bool.not_eq_true, List.contains_iff_mem]
      exact hnone j hj
  refine ⟨_, _, rfl, hexec, ?_, ?_⟩
  · rw [performControlWrite, ← controlBeats_eq_foldl i a.queue a.first 0 bs s]
    exact (respond_answered ..).notify
  · rw [performControlWrite, ← controlBeats_eq_foldl i a.queue a.first 0 bs s, State.port_notify]
    exact congrArg State.notify (respond_eq ..)

/-- Settles O48. -/
theorem controlWordEffects : Obligations.ControlWordEffects := by
  intro s i q wb
  have hput : controlBeat i q 2 wb s = abandonBinding i q s := rfl
  have htake : controlBeat i q 3 wb s = returnBinding i q s := rfl
  refine ⟨fun hnone => ?_, fun e b hbind => ⟨fun hstate => ?_, fun c hstate => ?_⟩, fun hnone => ?_,
    fun e b hbind => ⟨fun hstate => ?_, fun c hstate => ?_⟩, ?_, fun w h2 h3 h4 => ?_⟩
  · rw [hput, abandonBinding, hnone]
  · rw [hput, abandonBinding, hbind]
    obtain h | h := hstate <;> dsimp only <;> rw [h] <;> rfl
  · rw [hput, abandonBinding, hbind]
    dsimp only
    rw [hstate]
    dsimp only
    rw [decOpen_appendFree]
    rfl
  · rw [htake, returnBinding, hnone]
  · rw [htake, returnBinding, hbind]
    dsimp only
    rw [hstate]
    rfl
  · rw [htake, returnBinding, hbind]
    dsimp only
    rw [hstate]
    rfl
  · have hbit (n : Nat) (hn : n < 8) : (wb.data.truncate 8).getLsbD n = wb.data.getLsbD n := by simp [hn]
    change eventsWritten q wb s = _
    rw [eventsWritten]
    split
    · simp only [State.updFlags, EventSet.clear, eventSetOf, hbit, Nat.reduceLT]
    · rfl
  · unfold controlBeat
    split
    · exact absurd rfl h2
    · exact absurd rfl h3
    · exact absurd rfl h4
    · rfl

/-! ### The first held request that passes a test -/

/-- A held request is found when it passes the test and none before it in arrival order does (R89). -/
theorem findHeld_eq_some_iff {s : State} {p : Slot → Bool} {k : SlotId} {x : Slot} :
    s.findHeld p = some (k, x) ↔ ∃ before after, s.arrival = before ++ k :: after ∧ s.slots[k] = some x ∧ p x = true ∧
      ∀ j ∈ before, ∀ y, s.slots[j] = some y → p y = false := by
  have hfound (j : SlotId) : (match s.slots[j] with
      | some x => if p x then some (j, x) else none
      | none => none) = some (k, x) ↔ j = k ∧ s.slots[j] = some x ∧ p x = true := by
    cases s.slots[j] with
    | none => simp
    | some y =>
      by_cases hy : p y = true
      · simp only [hy, if_true, Option.some.injEq, Prod.mk.injEq]
        exact and_congr_right fun _ => ⟨fun h => ⟨h, h ▸ hy⟩, And.left⟩
      · simp only [hy, Option.some.injEq]
        exact iff_of_false (by simp) fun h => hy (h.2.1 ▸ h.2.2)
  have hmissed (j : SlotId) : (match s.slots[j] with
      | some x => if p x then some (j, x) else none
      | none => none) = none ↔ ∀ y, s.slots[j] = some y → p y = false := by
    cases s.slots[j] with
    | none => simp
    | some y => simp
  rw [State.findHeld, List.findSome?_eq_some_iff]
  constructor
  · rintro ⟨before, j, after, harrival, hj, hbefore⟩
    obtain ⟨rfl, hslot, hp⟩ := (hfound j).mp hj
    exact ⟨before, after, harrival, hslot, hp, fun j hj => (hmissed j).mp (hbefore j hj)⟩
  · rintro ⟨before, after, harrival, hslot, hp, hbefore⟩
    exact ⟨before, k, after, harrival, (hfound k).mpr ⟨rfl, hslot, hp⟩, fun j hj => (hmissed j).mpr (hbefore j hj)⟩

/-! ### Expiry -/

theorem due_iff (s : State) (x : Slot) : s.due x = true ↔ x.deadline = s.tickCount := decide_eq_true_iff

/-- The first due held request of a kind and an initiator (R97, R98). -/
theorem dueHeld_eq_some_iff {s : State} {kind : HeldKind} {i : InitId} {k : SlotId} {x : Slot} :
    s.dueHeld kind i = some (k, x) ↔
      ∃ before after, s.arrival = before ++ k :: after ∧ s.slots[k] = some x ∧ x.kind = kind ∧ x.init = i ∧
        x.deadline = s.tickCount ∧
        ∀ j ∈ before, ∀ y, s.slots[j] = some y → y.kind = kind → y.init = i → y.deadline ≠ s.tickCount := by
  rw [State.dueHeld, findHeld_eq_some_iff]
  simp only [State.due, Bool.and_eq_true, decide_eq_true_eq, ← Bool.not_eq_true, and_assoc, not_and, ne_eq]

theorem heldTakeExpiry_found {s : State} {i : InitId} {k : SlotId} {x : Slot} (hdue : s.dueHeld .take i = some (k, x)) :
    exec (.heldTakeExpiry i) s = .next (expireTake k x s).notify := by
  change execHeldTakeExpiry i s = _
  rw [execHeldTakeExpiry, hdue]
  rfl

theorem heldPutExpiry_found {s : State} {i : InitId} {k : SlotId} {x : Slot} (hdue : s.dueHeld .put i = some (k, x)) :
    exec (.heldPutExpiry i) s = .next (expirePut k x s).notify := by
  change execHeldPutExpiry i s = _
  rw [execHeldPutExpiry, hdue]
  rfl

/-- A held take that expires has counted an underrun and an expiry (R97). -/
theorem raiseUnderrun_raiseExpired (s : State) (q : QueueId) :
    (s.raiseUnderrun q).raiseExpired q =
      { s with
          queues := s.queues.set q { s.queue q with underrun := satInc (s.queue q).underrun,
                                                    expired := satInc (s.queue q).expired },
          flags := s.flags.set q { s.flags[q] with underrun := true, expired := true } } := by
  simp [State.raiseUnderrun, State.raiseExpired, State.updQueue, State.setQueue, State.updFlags, State.queue]

/-- A held put that expires and is dropped has counted an expiry and a loss (R72, R98). -/
theorem raiseExpired_raiseLost (s : State) (q : QueueId) :
    (s.raiseExpired q).raiseLost q =
      { s with
          queues := s.queues.set q { s.queue q with lost := satInc (s.queue q).lost,
                                                    expired := satInc (s.queue q).expired },
          flags := s.flags.set q { s.flags[q] with lost := true, expired := true } } := by
  simp [State.raiseLost, State.raiseExpired, State.updQueue, State.setQueue, State.updFlags, State.queue]

theorem vacate_view (s : State) (k : SlotId) : (s.vacate k).view = s.view := rfl
theorem setQueue_view (s : State) (q : QueueId) (x : QueueCtx) : (s.setQueue q x).view = s.view := rfl
theorem updFlags_view (s : State) (q : QueueId) (f : EventSet → EventSet) : (s.updFlags q f).view = s.view := rfl

theorem raiseUnderrun_view (s : State) (q : QueueId) : (s.raiseUnderrun q).view = s.view := by
  rw [State.raiseUnderrun, updFlags_view, State.updQueue, setQueue_view]

theorem raiseExpired_config (s : State) (q p : QueueId) : ((s.raiseExpired q).queue p).config = (s.queue p).config :=
  config_setQueue (s := s) (x := { s.queue q with expired := satInc (s.queue q).expired }) rfl p

theorem raiseUnderrun_config (s : State) (q p : QueueId) : ((s.raiseUnderrun q).queue p).config = (s.queue p).config :=
  config_setQueue (s := s) (x := { s.queue q with underrun := satInc (s.queue q).underrun }) rfl p

theorem raiseExpired_eq (s : State) (q : QueueId) :
    s.raiseExpired q =
      { s with queues := s.queues.set q { s.queue q with expired := satInc (s.queue q).expired },
               flags := s.flags.set q { s.flags[q] with expired := true } } := rfl

/-- An expiry that finds the Put Binding Table full, or an entry free, finds it so before it counts anything. -/
theorem expiring_freePut (s : State) (k : SlotId) (q : QueueId) : ((s.vacate k).raiseExpired q).freePut = s.freePut := by
  have htable : ((s.vacate k).raiseExpired q).putTable = s.putTable := rfl
  rw [State.freePut, htable]
  rfl

/-- Settles O55. -/
theorem heldRequestsExpire : Obligations.HeldRequestsExpire := by
  refine ⟨fun s kind i k x => dueHeld_eq_some_iff, fun s i k x hdue => ?_,
    fun s i k x hdue hqueue => ⟨fun e hfree => ?_, fun hfree => ?_⟩⟩
  · obtain ⟨-, -, -, -, -, rfl, -⟩ := dueHeld_eq_some_iff.mp hdue
    have hexec := heldTakeExpiry_found hdue
    rw [expireTake, raiseUnderrun_raiseExpired] at hexec
    exact exists_answered hexec rfl (config_setQueue (s := s) rfl)
  · obtain ⟨-, -, -, -, -, rfl, -⟩ := dueHeld_eq_some_iff.mp hdue
    have hexec := heldPutExpiry_found hdue
    have hentry := (expiring_freePut s k x.queue).trans hfree
    rw [expirePut, hentry] at hexec
    dsimp only at hexec
    rw [dropWrite_answer, hqueue, raiseExpired_raiseLost, raiseExpired_config] at hexec
    exact exists_answered hexec rfl (config_setQueue (s := s) rfl)
  · obtain ⟨-, -, -, -, -, rfl, -⟩ := dueHeld_eq_some_iff.mp hdue
    have hexec := heldPutExpiry_found hdue
    have hentry := (expiring_freePut s k x.queue).trans hfree
    rw [expirePut, hentry] at hexec
    dsimp only at hexec
    rw [raiseExpired_eq] at hexec
    exact exists_faulted hexec rfl (config_setQueue (s := s) rfl)

/-! ### The completion of a flush -/

/-- The cell that an entry of the Put Binding Table holds OPEN for a queue. -/
def State.openAt (s : State) (q : QueueId) (e : EntryId) : Option Nat :=
  match s.putTable[e] with
  | some b => if b.target = q then match b.state with
      | .active c => some c
      | .phantom => none
      | .voided => none
    else none
  | none => none

theorem openAt_eq_some_iff {s : State} {q : QueueId} {e : EntryId} {c : Nat} :
    s.openAt q e = some c ↔ ∃ b, s.putTable[e] = some b ∧ b.target = q ∧ b.state = .active c := by
  unfold State.openAt
  cases s.putTable[e] with
  | none => simp
  | some b => cases hstate : b.state <;> simp [hstate]

/-- The members that a partial function keeps, beside their values. -/
theorem forall₂_filterMap {α β : Type} (f : α → Option β) (l : List α) :
    List.Forall₂ (fun a b => f a = some b) (l.filter fun a => (f a).isSome) (l.filterMap f) := by
  induction l with
  | nil => exact .nil
  | cons a l ih =>
    cases h : f a with
    | none => simpa [h] using ih
    | some b => simpa [h] using ih

/-- Cells appended to the Free List are FREE, each at its number, and stand at its tail in order (R10). -/
theorem appendFree_foldl (cells : List Nat) (s : State) :
    cells.foldl (fun s c => appendFree c s) s =
      { s with cells := s.cells.mapIdx (fun c x => if c ∈ cells then Cell.freed else x), freeList := s.freeList ++ cells } := by
  rw [appendFree_foldl_eq]
  suffices h : (cells.foldl (fun s c => appendFree c s) s).cells =
      s.cells.mapIdx (fun c x => if c ∈ cells then Cell.freed else x) by rw [h]
  induction cells generalizing s with
  | nil => exact List.ext_getElem? fun n => by simp
  | cons c cs ih =>
    rw [List.foldl_cons, ih]
    refine List.ext_getElem? fun n => ?_
    simp only [appendFree, State.setCell, List.getElem?_mapIdx, List.getElem?_set, List.mem_cons]
    by_cases hn : c = n
    · subst hn
      by_cases hlt : c < s.cells.length <;> simp [hlt]
    · rw [if_neg hn]
      simp [Ne.symm hn]

theorem mapTable_eq_map {α β : Type} {n : Nat} (f : α → β) (v : Vector α n) : mapTable f v = v.map f := by
  refine Vector.ext fun k hk => ?_
  simp [mapTable]

/-- The completion of a flush (R111, R112). -/
theorem completeFlush_flushing {s : State} {q : QueueId} {r : RestState} (hstate : (s.queue q).state = .flushing r) :
    completeFlush q s =
      let cells := (s.queue q).committed ++ s.openCells q
      let u := offerRoom
        { s with
            cells := s.cells.mapIdx (fun c x => if c ∈ cells then Cell.freed else x), freeList := s.freeList ++ cells,
            putTable := s.putTable.map (Option.map (fun b => if b.target = q then { b with state := .voided } else b)),
            takeTable := s.takeTable.map (Option.map (fun b => if b.queue = q then { b with state := .voided } else b)),
            queues := s.queues.set q { s.queue q with committed := [], openCount := 0, state := .rest r } }
      { u with pendingCmd := s.pendingCmd.completed } := by
  have hpending (v : State) : (offerRoom v).pendingCmd = v.pendingCmd := by rw [offerRoom_eq]; rfl
  unfold completeFlush
  dsimp only
  rw [appendFree_foldl, mapTable_eq_map, mapTable_eq_map, hpending]
  have hrest : ((s.queue q).state).restored = .rest r := by rw [hstate]; rfl
  rw [← hrest]
  rfl

theorem cellsQuiet_iff (s : State) (q : QueueId) : s.cellsQuiet q = true ↔ Drained s q := by
  simp only [State.cellsQuiet, Drained, List.all_eq_true, Bool.or_eq_true, Bool.and_eq_true, decide_eq_true_eq, ne_eq]
  exact forall₂_congr fun x _ => by rw [Classical.or_iff_not_imp_left, not_not]

/-- The test of R110. -/
theorem flushDone_iff (s : State) (q : QueueId) :
    s.flushDone q = true ↔ (s.queue q).isFlushing = true ∧ Drained s q ∧ s.drain = false := by
  rw [State.flushDone, Bool.and_eq_true, Bool.and_eq_true, cellsQuiet_iff, Bool.not_eq_true', and_assoc]

/-- Settles O25. -/
theorem flushCompletes : Obligations.FlushCompletes := by
  refine ⟨fun s q r hstate => (completeFlush_flushing hstate).trans ?_, fun s q => ?_, fun s q hflushing hquiet hdrain => ?_,
    fun s q hnot => ?_, fun s => rfl⟩
  · cases s.pendingCmd <;> rfl
  · refine ⟨upTo16.filter fun e => (s.openAt q e).isSome, List.Pairwise.filter _ (by decide), fun e => ?_, ?_⟩
    · rw [List.mem_filter, and_iff_right (mem_upTo16 e), Option.isSome_iff_exists]
      exact ⟨fun ⟨c, hc⟩ => have ⟨b, hb⟩ := openAt_eq_some_iff.mp hc; ⟨b, c, hb⟩,
        fun ⟨b, c, hb⟩ => ⟨c, openAt_eq_some_iff.mpr ⟨b, hb⟩⟩⟩
    · refine (forall₂_filterMap (s.openAt q) upTo16).imp fun e c hc => ?_
      obtain ⟨b, hentry, -, hactive⟩ := openAt_eq_some_iff.mp hc
      exact ⟨b, hentry, hactive⟩
  · have hdone := (flushDone_iff s q).mpr ⟨hflushing, hquiet, hdrain⟩
    exact ⟨if_pos hdone, if_pos hdone⟩
  · have hdone : ¬ s.flushDone q = true := fun h => by
      obtain ⟨hflushing, hquiet, hdrain⟩ := (flushDone_iff s q).mp h
      obtain h | h | h := hnot
      · rw [hflushing] at h; cases h
      · exact h hquiet
      · rw [hdrain] at h; cases h
    exact ⟨if_neg hdone, if_neg hdone⟩

end Sys2Proof.Machine
end

section
/-! PROOF. The held requests that a disable or the start of a flush releases (R99, R100, R103, R108). -/

namespace Sys2Proof.Machine

/-! ### Several answers in a row -/

/-- Several answers look at the view and the configurations of the state they begin with, and at the port of the one they end
with. -/
theorem AnsweredAll.of_view {l : List Response} {s u t v : State} (h : AnsweredAll l u t) (hview : u.view = s.view)
    (hconfig : ∀ q, (u.queue q).config = (s.queue q).config) (hport : v.view = t.view) : AnsweredAll l s v := by
  induction l generalizing s u with
  | nil =>
    obtain ⟨hoffers, hchannels, htaken, hresponses⟩ := h
    simp only [State.view, Prod.mk.injEq] at hview hport
    exact ⟨hport.1.trans (hoffers.trans hview.1), hport.2.1.trans (hchannels.trans hview.2.1),
      hport.2.2.1.trans (htaken.trans hview.2.2.1), hport.2.2.2.1.trans (hresponses.trans hview.2.2.2.1)⟩
  | cons r rest ih =>
    obtain ⟨w, hw, hanswer, hrest⟩ := h
    refine ⟨s.port w, rfl, ?_, ih hrest ?_ ?_⟩
    · exact hanswer.of_view hview hconfig
    · rw [hw]
      simp only [State.view, Prod.mk.injEq] at hview ⊢
      obtain ⟨-, -, -, -, hrest⟩ := hview
      exact ⟨rfl, rfl, rfl, rfl, hrest⟩
    · intro q
      rw [hw]
      exact hconfig q

/-! ### Releasing the held requests of a queue -/

/-- The fields that a release may change besides what its answer counts: the port, and the slot. -/
def State.released (s t : State) : State := { s.port t with slots := t.slots, arrival := t.arrival }

/-- A way of releasing a held request of a queue: one answer, which depends on the configuration and the request; what the
answer counts; and the slot vacated. -/
structure Releases (q : QueueId) (resp : QueueConfig → Slot → Response) (counted : Slot → State → State)
    (f : SlotId → Slot → State → State) : Prop where
  answers : ∀ k x u, x.queue = q →
    Answered (resp (u.queue q).config x).init (resp (u.queue q).config x).code (resp (u.queue q).config x).data u (f k x u)
  frame : ∀ k x u, x.queue = q → f k x u = (counted x u).released (f k x u)
  slots : ∀ k x u, (f k x u).slots = u.slots.set k none
  arrival : ∀ k x u, (f k x u).arrival = u.arrival.filter (fun j => decide (j ≠ k))
  counted_released : ∀ x u v, counted x (u.released v) = (counted x u).released v
  counted_view : ∀ x u, (counted x u).view = u.view
  counted_config : ∀ x u p, ((counted x u).queue p).config = (u.queue p).config

/-- A release of one slot, where it holds a request on the queue. -/
def releaseSlot (q : QueueId) (f : SlotId → Slot → State → State) (s : State) (k : SlotId) : State :=
  match s.slots[k] with
  | some x => if x.queue = q then f k x s else s
  | none => s

theorem releaseHeld_eq_foldl (q : QueueId) (f : SlotId → Slot → State → State) (s : State) :
    releaseHeld q f s = s.arrival.foldl (releaseSlot q f) s := rfl

/-- A slot holds a request on the queue. -/
def State.holdsFor (s : State) (q : QueueId) (k : SlotId) : Bool := (s.slots[k]).any (fun x => decide (x.queue = q))

/-- The requests on the queue that a list of slots holds. -/
def State.heldIn (s : State) (q : QueueId) (l : List SlotId) : List Slot :=
  (l.filterMap (fun k => s.slots[k])).filter (fun x => decide (x.queue = q))

theorem releaseSlot_some {q : QueueId} {f : SlotId → Slot → State → State} {s : State} {k : SlotId} {x : Slot}
    (hslot : s.slots[k] = some x) (hqueue : x.queue = q) : releaseSlot q f s k = f k x s := by
  rw [releaseSlot, hslot]
  exact if_pos hqueue

theorem releaseSlot_skip {q : QueueId} {f : SlotId → Slot → State → State} {s : State} {k : SlotId}
    (hskip : s.holdsFor q k = false) : releaseSlot q f s k = s := by
  rw [releaseSlot]
  rw [State.holdsFor] at hskip
  cases hslot : s.slots[k] with
  | none => rfl
  | some x =>
    rw [hslot] at hskip
    exact if_neg (of_decide_eq_false hskip)

theorem holdsFor_iff {s : State} {q : QueueId} {k : SlotId} :
    s.holdsFor q k = true ↔ ∃ x, s.slots[k] = some x ∧ x.queue = q := by
  rw [State.holdsFor, Option.any_eq_true_iff_get]
  cases s.slots[k] <;> simp

theorem heldIn_cons_some {s : State} {q : QueueId} {k : SlotId} {x : Slot} (l : List SlotId) (hslot : s.slots[k] = some x)
    (hqueue : x.queue = q) : s.heldIn q (k :: l) = x :: s.heldIn q l := by
  rw [State.heldIn, List.filterMap_cons_some (f := fun k : SlotId => s.slots[k]) hslot, List.filter_cons,
    if_pos (decide_eq_true hqueue)]
  rfl

theorem heldIn_cons_skip {s : State} {q : QueueId} {k : SlotId} (l : List SlotId) (hskip : s.holdsFor q k = false) :
    s.heldIn q (k :: l) = s.heldIn q l := by
  rw [State.holdsFor] at hskip
  cases hslot : s.slots[k] with
  | none =>
    rw [State.heldIn, List.filterMap_cons_none (f := fun k : SlotId => s.slots[k]) hslot]
    rfl
  | some x =>
    rw [hslot, Option.any_some] at hskip
    rw [State.heldIn, List.filterMap_cons_some (f := fun k : SlotId => s.slots[k]) hslot, List.filter_cons,
      if_neg (Bool.eq_false_iff.mp hskip)]
    rfl

/-- What a list of slots holds depends on those slots alone. -/
theorem heldIn_congr {s u : State} {q : QueueId} {l : List SlotId} (h : ∀ k ∈ l, u.slots[k] = s.slots[k]) :
    u.heldIn q l = s.heldIn q l := by
  rw [State.heldIn, State.heldIn, List.filterMap_congr h]

theorem released_self (s : State) : s.released s = s := rfl

section
variable {q : QueueId} {resp : QueueConfig → Slot → Response} {counted : Slot → State → State}
  {f : SlotId → Slot → State → State}

/-- A release leaves the other slots. -/
theorem Releases.slots_ne (hf : Releases q resp counted f) {k : SlotId} (x : Slot) (s : State) {j : SlotId} (hj : j ≠ k) :
    (f k x s).slots[j] = s.slots[j] := by
  rw [hf.slots]
  exact (getElem_set_place ..).trans (if_neg hj)

/-- The releases of a list of slots: the answers in the order of the list, what they count in that order, and the slots. -/
theorem releaseSlots_spec (hf : Releases q resp counted f) {l : List SlotId} (hnodup : l.Nodup) (s : State) :
    AnsweredAll ((s.heldIn q l).map (resp (s.queue q).config)) s (l.foldl (releaseSlot q f) s) ∧
    l.foldl (releaseSlot q f) s =
      ((s.heldIn q l).foldl (fun u x => counted x u) s).released (l.foldl (releaseSlot q f) s) ∧
    (l.foldl (releaseSlot q f) s).arrival = s.arrival.filter (fun k => !(decide (k ∈ l) && s.holdsFor q k)) ∧
    ∀ k : SlotId, (l.foldl (releaseSlot q f) s).slots[k] = if k ∈ l ∧ s.holdsFor q k = true then none else s.slots[k] := by
  induction l generalizing s with
  | nil =>
    rw [List.foldl_nil]
    exact ⟨⟨rfl, rfl, rfl, rfl⟩, (released_self s).symm, by simp, by simp⟩
  | cons k l ih =>
    obtain ⟨hk, hl⟩ := List.nodup_cons.mp hnodup
    rw [List.foldl_cons]
    by_cases hholds : s.holdsFor q k = true
    · obtain ⟨x, hslot, hqueue⟩ := holdsFor_iff.mp hholds
      have hothers (j : SlotId) (hj : j ≠ k) := hf.slots_ne x s hj
      have hmembers (j : SlotId) (hj : j ∈ l) : (f k x s).slots[j] = s.slots[j] := 
        hothers j (ne_of_mem_of_not_mem hj hk)
      have hheld := heldIn_cons_some l hslot hqueue
      have hframe := hf.frame k x s hqueue
      have hconfig (p : QueueId) : ((f k x s).queue p).config = (s.queue p).config := by
        rw [hframe]
        exact hf.counted_config x s p
      have hholdsFor (j : SlotId) (hj : j ≠ k) : (f k x s).holdsFor q j = s.holdsFor q j := by
        rw [State.holdsFor, hothers j hj, State.holdsFor]
      obtain ⟨hanswers, hcounted, harrival, hslots⟩ := ih hl (f k x s)
      rw [heldIn_congr hmembers, hconfig] at hanswers
      rw [heldIn_congr hmembers] at hcounted
      rw [releaseSlot_some hslot hqueue, hheld]
      refine ⟨⟨s.port (f k x s), rfl, hf.answers k x s hqueue, hanswers.of_view ?_ hconfig rfl⟩, ?_, ?_, fun j => ?_⟩
      · have hview := hf.counted_view x s
        rw [hframe]
        simp only [State.view, Prod.mk.injEq] at hview ⊢
        obtain ⟨-, -, -, -, hrest⟩ := hview
        exact ⟨rfl, rfl, rfl, rfl, hrest⟩
      · have hfold (hs : List Slot) (u v : State) : hs.foldl (fun u x => counted x u) (u.released v) =
            (hs.foldl (fun u x => counted x u) u).released v := by
          induction hs generalizing u with
          | nil => rfl
          | cons y hs ih => rw [List.foldl_cons, hf.counted_released, ih, List.foldl_cons]
        rw [hcounted, hframe, hfold]
        rfl
      · rw [harrival, hf.arrival, List.filter_filter]
        refine List.filter_congr fun j _ => ?_
        by_cases hj : j = k
        · subst hj
          simp [hholds]
        · simp [hj, hholdsFor j hj]
      · rw [hslots j]
        by_cases hj : j = k
        · subst hj
          rw [if_neg fun h => hk h.1, if_pos ⟨List.mem_cons_self, hholds⟩, hf.slots, getElem_set_place, if_pos rfl]
        · simp [hj, hholdsFor j hj, hothers j hj]
    · rw [Bool.not_eq_true] at hholds
      have hheld := heldIn_cons_skip l hholds
      obtain ⟨hanswers, hcounted, harrival, hslots⟩ := ih hl s
      rw [releaseSlot_skip hholds, hheld]
      refine ⟨hanswers, hcounted, harrival.trans (List.filter_congr fun j _ => ?_), fun j => (hslots j).trans ?_⟩
      · by_cases hj : j = k
        · subst hj
          simp [hholds]
        · simp [hj]
      · by_cases hj : j = k
        · subst hj
          simp [hholds]
        · simp [hj]

/-- Every held request of a queue is released, in arrival order, after a change of the queue's context that keeps its
configuration. -/
theorem releaseHeld_spec (hf : Releases q resp counted f) {s v : State} {y : QueueCtx} (hy : y.config = (s.queue q).config)
    (hnodup : s.arrival.Nodup) (hv : v = releaseHeld q f (s.setQueue q y)) :
    AnsweredAll ((s.heldOn q).map (resp (s.queue q).config)) s v ∧
    v = ((s.heldOn q).foldl (fun u x => counted x u) (s.setQueue q y)).released v ∧
    v.arrival = s.arrival.filter (fun k => !s.holdsFor q k) ∧
    ∀ k : SlotId, (HoldsOn s q k → v.slots[k] = none) ∧ (¬ HoldsOn s q k → v.slots[k] = s.slots[k]) := by
  have hconfig := config_setQueue hy
  obtain ⟨hanswers, hframe, harrival, hslots⟩ := releaseSlots_spec hf (s := s.setQueue q y) hnodup
  have hv : v = s.arrival.foldl (releaseSlot q f) (s.setQueue q y) := hv.trans (releaseHeld_eq_foldl ..)
  rw [← hv] at hanswers hframe harrival hslots
  rw [hconfig] at hanswers
  have hholds (k : SlotId) : HoldsOn s q k ↔ k ∈ s.arrival ∧ s.holdsFor q k = true := by
    rw [holdsFor_iff]
    rfl
  refine ⟨hanswers.of_view rfl hconfig rfl, hframe, harrival.trans (List.filter_congr fun k hk => ?_), fun k =>
    ⟨fun hk => (hslots k).trans (if_pos ((hholds k).mp hk)), fun hk => (hslots k).trans (if_neg fun h => hk ((hholds k).mpr h))⟩⟩
  rw [decide_eq_true (show k ∈ s.arrival from hk), Bool.true_and]
  rfl

end

/-! ### The start of a flush -/

/-- The answer of a request that the start of a flush releases (R100). -/
def flushedResponse (config : QueueConfig) (x : Slot) : Response :=
  { init := x.init, code := .fail, data := x.req.body.fill config.emptyPattern }

theorem releases_flushed (q : QueueId) : Releases q flushedResponse (fun _ u => u) releaseFlushed where
  answers k x u hqueue := by
    subst hqueue
    exact respond_answered_of_view x.init .fail _ (s := u) (u := u.vacate k) (vacate_view ..)
  frame k x u _ := by rw [releaseFlushed, respond_eq]; rfl
  slots k x u := by rw [releaseFlushed, respond_eq]; rfl
  arrival k x u := by rw [releaseFlushed, respond_eq]; rfl
  counted_released _ _ _ := rfl
  counted_view _ _ := rfl
  counted_config _ _ _ := rfl

/-- Under the accounting no access to a cell counts while there is no pool or steering is OFF (R108, R114). -/
theorem Accounted.cell_dropped {s : State} (h : Accounted s) (hidle : s.poolSize = 0 ∨ s.steering = .off) {m : MemReq}
    (hm : m ∈ s.requests) {x : CellAccess} (howner : m.owner = .cell x) : m.fate = .dropped := by
  obtain hpool | hoff := hidle
  · by_contra hfate
    have hcells : s.cells = [] := List.eq_nil_of_length_eq_zero (h.cells.pool.trans hpool)
    have hcell : s.cell x.cell = Cell.freed := by rw [State.cell, hcells]; rfl
    have hcounts : MemReq.counts (decide (x.use = .peek)) x.cell m = true := by simp [MemReq.counts, howner, hfate]
    have hpos := List.countP_pos_iff.mpr ⟨m, hm, hcounts⟩
    cases hpeek : decide (x.use = .peek) with
    | false =>
      rw [hpeek, ← h.accesses.inFlight, hcell] at hpos
      exact absurd hpos (by decide)
    | true =>
      rw [hpeek, ← h.accesses.pins, hcell] at hpos
      exact absurd hpos (by decide)
  · exact h.accesses.off hoff m hm x howner

/-- Then no cell has an access in flight or a pin (R108). -/
theorem Accounted.idle_quiet {s : State} (h : Accounted s) (hidle : s.poolSize = 0 ∨ s.steering = .off) (c : Nat) :
    (s.cell c).inFlight = 0 ∧ (s.cell c).pins = 0 := by
  have hnone (peek : Bool) : s.requests.countP (MemReq.counts peek c) = 0 := by
    refine List.countP_eq_zero.mpr fun m hm hcounts => ?_
    unfold MemReq.counts at hcounts
    split at hcounts
    case h_1 x howner => simp [h.cell_dropped hidle hm howner] at hcounts
    all_goals cases hcounts
  exact ⟨(h.accesses.inFlight c).trans (hnone false), (h.accesses.pins c).trans (hnone true)⟩

/-- The record of a cell of the Cell Table. -/
theorem exists_cell_of_mem {s : State} {x : Cell} (hx : x ∈ s.cells) : ∃ c, c < s.cells.length ∧ s.cell c = x := by
  obtain ⟨c, hc, rfl⟩ := List.mem_iff_getElem.mp hx
  exact ⟨c, hc, by rw [State.cell, List.getD_eq_getElem _ _ hc]⟩

/-- So every queue is drained, and no reset drain is set, while there is no pool or steering is OFF (R108). -/
theorem Accounted.idle_drained {s : State} (h : Accounted s) (hidle : s.poolSize = 0 ∨ s.steering = .off) (q : QueueId) :
    Drained s q ∧ s.drain = false := by
  have hquiet (x : Cell) (hx : x ∈ s.cells) : x.inFlight = 0 ∧ x.pins = 0 := by
    obtain ⟨c, -, rfl⟩ := exists_cell_of_mem hx
    exact h.idle_quiet hidle c
  refine ⟨fun x hx _ => hquiet x hx, Bool.eq_false_iff.mpr fun hdrain => h.accesses.awaits hdrain ⟨?_, hquiet⟩⟩
  intro m hm hfate x howner
  have hm' : m ∈ s.requests := by
    rw [State.requests, List.append_assoc]
    exact List.mem_append_right _ hm
  have hdropped := h.cell_dropped hidle hm' howner
  rw [hfate] at hdropped
  cases hdropped

/-- The state after the start of a flush of a queue at rest (R108). -/
theorem startFlush_eq {s : State} {q : QueueId} {r : RestState} (hstate : (s.queue q).state = .rest r) :
    startFlush q s =
      { releaseHeld q releaseFlushed (s.setQueue q { s.queue q with state := .flushing r }) with
          pendingCmd := .pending q } := by
  have hflushed : (s.queue q).state.flushed = .flushing r := by rw [hstate]; rfl
  rw [startFlush, State.updQueue, hflushed]

/-- Settles O24. -/
theorem flushStarts : Obligations.FlushStarts := by
  refine ⟨fun s q h hidle => h.idle_drained hidle q, fun s b q r hready hb hstate hnodup => ?_⟩
  have hstart := startFlush_eq hstate
  generalize hrelease : releaseHeld q releaseFlushed (s.setQueue q { s.queue q with state := .flushing r }) = v at hstart
  obtain ⟨hanswers, hframe, harrival, hslots⟩ := releaseHeld_spec (releases_flushed q)
    (y := { s.queue q with state := .flushing r }) rfl hnodup hrelease.symm
  rw [List.foldl_fixed] at hframe
  have hdone : (startFlush q s).flushDone q = true ↔ Drained s q ∧ s.drain = false := by
    have hqueue : (startFlush q s).queue q = { s.queue q with state := .flushing r } := by
      rw [hstart, hframe]
      exact State.setQueue_queue_self ..
    have hcells : (startFlush q s).cells = s.cells := by rw [hstart, hframe]; rfl
    have hdrain : (startFlush q s).drain = s.drain := by rw [hstart, hframe]; rfl
    rw [flushDone_iff, Drained, hqueue, hcells, hdrain]
    exact and_iff_right rfl
  refine ⟨startFlush q s, ?_, ?_, fun k => ⟨fun hk => ?_, fun hk => ?_⟩, ?_, fun hquiet hdrain => ?_, fun hnot => ?_⟩
  · rw [hstart]
    exact hanswers.of_view rfl (fun _ => rfl) rfl
  · rw [hstart]
    exact harrival
  · rw [hstart]
    exact (hslots k).1 hk
  · rw [hstart]
    exact (hslots k).2 hk
  · rw [hstart, hframe]
    rfl
  · exact carryOut_index (status := .done) hready hb (by rw [flushQueue, if_pos (hdone.mpr ⟨hquiet, hdrain⟩)])
  · have hwaits : ¬ (startFlush q s).flushDone q = true := fun h => by
      obtain ⟨hquiet, hdrain⟩ := hdone.mp h
      obtain h | h := hnot
      · exact h hquiet
      · rw [hdrain] at h; cases h
    exact carryOut_index (status := .pending) hready hb (by rw [flushQueue, if_neg hwaits])

/-! ### A disable -/

/-- The answer of a request that a disable releases (R99). -/
def disabledResponse (config : QueueConfig) (x : Slot) : Response :=
  match x.kind with
  | .take => { init := x.init, code := .ok, data := x.req.body.fill config.emptyPattern }
  | .put => { init := x.init, code := .fault, data := [] }

/-- The record of a held put that a disable releases (R99). -/
def State.disabledRecord (s : State) (q : QueueId) (x : Slot) : FaultRecord :=
  s.faultRecord .disabled x.init x.req.addr (some x.access.aperture) (some q)

/-- What a disable counts for a request it releases: an underrun for a take, a record for a put (R99). -/
def countDisabled (q : QueueId) (x : Slot) (s : State) : State :=
  match x.kind with
  | .take => s.raiseUnderrun q
  | .put => s.appendRecord (s.disabledRecord q x)

theorem countDisabled_take {q : QueueId} {x : Slot} (h : x.kind = .take) (s : State) :
    countDisabled q x s = s.raiseUnderrun q := by rw [countDisabled, h]

theorem countDisabled_put {q : QueueId} {x : Slot} (h : x.kind = .put) (s : State) :
    countDisabled q x s = s.appendRecord (s.disabledRecord q x) := by rw [countDisabled, h]

theorem releaseDisabled_take {x : Slot} (h : x.kind = .take) (k : SlotId) (s : State) :
    releaseDisabled k x s =
      respond x.init .ok (x.req.body.fill (s.queue x.queue).config.emptyPattern) ((s.vacate k).raiseUnderrun x.queue) := by
  rw [releaseDisabled, h]
  rfl

theorem releaseDisabled_put {x : Slot} (h : x.kind = .put) (k : SlotId) (s : State) :
    releaseDisabled k x s =
      respondFault .disabled x.init x.req.addr (some x.access.aperture) (some x.queue) [] (s.vacate k) := by
  rw [releaseDisabled, h]

theorem appendRecord_released (s u : State) (r : FaultRecord) :
    (s.released u).appendRecord r = (s.appendRecord r).released u := by
  have hlog : (s.released u).log = s.log := rfl
  unfold State.appendRecord
  rw [hlog]
  split <;> rfl

/-- An answer with a record on a state whose slot is vacated is a release on the state with the record. -/
theorem eq_released_of_appendRecord {s t : State} {k : SlotId} {r : FaultRecord}
    (h : t = ((s.vacate k).port t).appendRecord r) : t = (s.appendRecord r).released t := by
  have hvacate : (s.vacate k).port t = s.released ((s.vacate k).port t) := rfl
  rw [hvacate, appendRecord_released] at h
  generalize (s.vacate k).port t = w at h
  rw [h]
  rfl

theorem releases_disabled (q : QueueId) : Releases q disabledResponse (countDisabled q) releaseDisabled where
  answers k x u hqueue := by
    subst hqueue
    cases h : x.kind with
    | take =>
      rw [disabledResponse, h, releaseDisabled_take h]
      exact respond_answered_of_view _ _ _ (s := u) (u := (u.vacate k).raiseUnderrun x.queue)
        ((raiseUnderrun_view ..).trans (vacate_view ..)) (raiseUnderrun_config (u.vacate k) x.queue)
    | put =>
      rw [disabledResponse, h, releaseDisabled_put h]
      exact respondFault_answered_of_view _ _ _ _ _ _ (s := u) (u := u.vacate k) (vacate_view ..)
  frame k x u hqueue := by
    subst hqueue
    cases h : x.kind with
    | take =>
      rw [releaseDisabled_take h, countDisabled_take h, respond_eq]
      rfl
    | put =>
      rw [releaseDisabled_put h, countDisabled_put h]
      exact eq_released_of_appendRecord (respondFault_eq ..)
  slots k x u := by
    cases h : x.kind with
    | take => rw [releaseDisabled_take h, respond_eq]; rfl
    | put => rw [releaseDisabled_put h, respondFault_eq, State.appendRecord_eq]; rfl
  arrival k x u := by
    cases h : x.kind with
    | take => rw [releaseDisabled_take h, respond_eq]; rfl
    | put => rw [releaseDisabled_put h, respondFault_eq, State.appendRecord_eq]; rfl
  counted_released x u v := by
    cases h : x.kind with
    | take => rw [countDisabled_take h, countDisabled_take h]; rfl
    | put =>
      rw [countDisabled_put h, countDisabled_put h]
      exact appendRecord_released ..
  counted_view x u := by
    cases h : x.kind with
    | take => rw [countDisabled_take h, raiseUnderrun_view]
    | put => rw [countDisabled_put h, appendRecord_view]
  counted_config x u p := by
    cases h : x.kind with
    | take => rw [countDisabled_take h, raiseUnderrun_config]
    | put => rw [countDisabled_put h, appendRecord_queue]

/-- Underruns counted for the takes among a list of requests (R17). -/
def State.underruns (s : State) (q : QueueId) (l : List Slot) : State :=
  { s with
      flags := s.flags.set q
        { s.flags[q] with underrun := s.flags[q].underrun || l.any (fun x => decide (x.kind = .take)) },
      queues := s.queues.set q
        { s.queue q with underrun := satInc^[l.countP (fun x => decide (x.kind = .take))] (s.queue q).underrun } }

theorem underruns_nil (s : State) (q : QueueId) : s.underruns q [] = s := by
  have hflags : s.flags.set q { s.flags[q] with underrun := s.flags[q].underrun || false } = s.flags := by
    rw [Bool.or_false]
    exact Vector.set_getElem_self ..
  have hqueues : s.queues.set q { s.queue q with underrun := (s.queue q).underrun } = s.queues := Vector.set_getElem_self ..
  rw [State.underruns, List.any_nil, hflags, List.countP_nil, Function.iterate_zero_apply, hqueues]

theorem underruns_cons_take {q : QueueId} {x : Slot} (h : x.kind = .take) (s : State) (l : List Slot) :
    s.underruns q (x :: l) = (s.raiseUnderrun q).underruns q l := by
  simp [State.underruns, h, State.raiseUnderrun, State.updQueue, State.setQueue, State.updFlags, State.queue]

theorem underruns_cons_put {q : QueueId} {x : Slot} (h : x.kind = .put) (s : State) (l : List Slot) :
    s.underruns q (x :: l) = s.underruns q l := by
  simp [State.underruns, h]

theorem underruns_setQueue (s : State) (q : QueueId) (y : QueueCtx) (l : List Slot) :
    (s.setQueue q y).underruns q l =
      { s with
          flags := s.flags.set q
            { s.flags[q] with underrun := s.flags[q].underrun || l.any (fun x => decide (x.kind = .take)) },
          queues := s.queues.set q
            { y with underrun := satInc^[l.countP (fun x => decide (x.kind = .take))] y.underrun } } := by
  simp [State.underruns, State.setQueue, State.queue]

theorem appendRecord_raiseUnderrun (s : State) (q : QueueId) (r : FaultRecord) :
    (s.raiseUnderrun q).appendRecord r = (s.appendRecord r).raiseUnderrun q := by
  have hlog : (s.raiseUnderrun q).log = s.log := rfl
  unfold State.appendRecord
  rw [hlog]
  split <;> rfl

theorem appendRecord_setQueue (s : State) (q : QueueId) (y : QueueCtx) (r : FaultRecord) :
    (s.setQueue q y).appendRecord r = (s.appendRecord r).setQueue q y := by
  have hlog : (s.setQueue q y).log = s.log := rfl
  unfold State.appendRecord
  rw [hlog]
  split <;> rfl

theorem appendRecord_foldl_eq (rs : List FaultRecord) (s : State) :
    rs.foldl State.appendRecord s =
      { s with log := (rs.foldl State.appendRecord s).log, overflow := (rs.foldl State.appendRecord s).overflow } := by
  induction rs generalizing s with
  | nil => rfl
  | cons r rs ih =>
    rw [List.foldl_cons, ih, State.appendRecord_eq]

/-- What a disable counts for a list of requests (R99): their records, and the underruns. -/
theorem countDisabled_foldl (q : QueueId) (l : List Slot) {s base : State} (htick : s.tickCount = base.tickCount) :
    l.foldl (fun u x => countDisabled q x u) s =
      (((l.filter fun x => decide (x.kind = .put)).map (base.disabledRecord q)).foldl State.appendRecord s).underruns q l := by
  induction l generalizing s with
  | nil => exact (underruns_nil s q).symm
  | cons x l ih =>
    rw [List.foldl_cons]
    cases h : x.kind with
    | take =>
      have hother : ¬ decide (x.kind = .put) = true := by rw [h]; decide
      rw [countDisabled_take h, ih (s := s.raiseUnderrun q) htick, List.filter_cons, if_neg hother,
        List.foldl_hom (State.raiseUnderrun · q) (g₁ := State.appendRecord) fun u r => appendRecord_raiseUnderrun u q r,
        underruns_cons_take h]
    | put =>
      have hrecord : s.disabledRecord q x = base.disabledRecord q x := State.faultRecord_congr htick ..
      have hkept := State.appendRecord_eq (s := s) (base.disabledRecord q x)
      rw [countDisabled_put h, hrecord, ih ((congrArg State.tickCount hkept).trans htick), List.filter_cons,
        if_pos (decide_eq_true h), List.map_cons, List.foldl_cons, underruns_cons_put h]

/-- A disable of a queue that is not ENABLED changes nothing (R103). -/
theorem disableQueue_rest {s : State} {q : QueueId} (h : (s.queue q).state = .rest .disabled) : disableQueue q s = s := by
  have hnot : (s.queue q).state ≠ .rest .enabled := by rw [h]; decide
  rw [disableQueue, if_neg hnot]

theorem disableQueue_enabled {s : State} {q : QueueId} (h : (s.queue q).state = .rest .enabled) :
    disableQueue q s = releaseHeld q releaseDisabled (s.setQueue q { s.queue q with state := .rest .disabled }) := by
  rw [disableQueue, if_pos h]
  rfl

/-- What the disabling of an ENABLED queue leaves changed (R99, R103). -/
theorem disable_frame {s v : State} {q : QueueId} {records : List FaultRecord}
    (h : v = ((records.foldl State.appendRecord (s.setQueue q { s.queue q with state := .rest .disabled })).underruns q
      (s.heldOn q)).released v) :
    (v.log, v.overflow) = ((records.foldl State.appendRecord s).log, (records.foldl State.appendRecord s).overflow) ∧
    (v.queue q).underrun =
      satInc^[(s.heldOn q).countP (fun x => decide (x.kind = .take))] (s.queue q).underrun ∧
    v = { s.port v with
            slots := v.slots, arrival := v.arrival, log := v.log, overflow := v.overflow,
            flags := s.flags.set q
              { s.flags[q] with underrun := s.flags[q].underrun || (s.heldOn q).any (fun x => decide (x.kind = .take)) },
            queues := s.queues.set q
              { s.queue q with state := .rest .disabled, underrun := (v.queue q).underrun } } := by
  rw [List.foldl_hom (State.setQueue · q _) (g₁ := State.appendRecord) fun u r => appendRecord_setQueue u q _ r,
    appendRecord_foldl_eq] at h
  rw [underruns_setQueue] at h
  have hunderrun : (v.queue q).underrun =
      satInc^[(s.heldOn q).countP (fun x => decide (x.kind = .take))] (s.queue q).underrun := by
    rw [h]
    exact congrArg QueueCtx.underrun (State.setQueue_queue_self ..)
  refine ⟨by rw [h]; rfl, hunderrun, ?_⟩
  rw [hunderrun]
  generalize hrecorded : records.foldl State.appendRecord s = u at h
  have hlog : v.log = u.log := by rw [h]; rfl
  have hoverflow : v.overflow = u.overflow := by rw [h]; rfl
  rw [hlog, hoverflow]
  exact h

/-- Settles O23. -/
theorem disableReleasesHeld : Obligations.DisableReleasesHeld := by
  intro s b q hready hb
  refine ⟨fun hstate => ?_, fun hstate hnodup => ?_⟩
  · exact carryOut_index (status := .done) hready hb (by rw [disableQueue_rest hstate])
  · generalize hrelease : releaseHeld q releaseDisabled (s.setQueue q { s.queue q with state := .rest .disabled }) = v
    obtain ⟨hanswers, hframe, harrival, hslots⟩ := releaseHeld_spec (releases_disabled q)
      (y := { s.queue q with state := .rest .disabled }) rfl hnodup hrelease.symm
    have hexec : exec (.queueDisable b) s = .next (v.replied 0x00#8 []) :=
      carryOut_index (status := .done) hready hb (by rw [disableQueue_enabled hstate, hrelease])
    rw [countDisabled_foldl q (s.heldOn q) (s := s.setQueue q _) (base := s) rfl] at hframe
    obtain ⟨hlog, hunderrun, hframe⟩ := disable_frame hframe
    rw [List.foldl_map] at hlog
    exact ⟨_, hexec, hanswers.of_view rfl (fun _ => rfl) rfl, harrival, hslots, hunderrun, hlog,
      congrArg (fun w : State => w.replied 0x00#8 []) hframe⟩

end Sys2Proof.Machine
end

section
/-! PROOF. The resets, the reset drain, and the acknowledgements of discarded requests (R25, R101, R143, R166, R167). -/

namespace Sys2Proof.Machine

/-! ### A discarded access -/

/-- A discarded access lowers the count it raised (R25, R166). -/
theorem dropAccess_spec (s : State) (x : CellAccess) :
    (x.use ≠ .peek → dropAccess x s =
      { s with cells := s.cells.set x.cell { s.cell x.cell with inFlight := (s.cell x.cell).inFlight - 1 } }) ∧
    (x.use = .peek → LastPin s x.cell → dropAccess x s =
      { s with cells := s.cells.set x.cell Cell.freed, freeList := s.freeList ++ [x.cell] }) ∧
    (x.use = .peek → ¬ LastPin s x.cell → dropAccess x s =
      { s with cells := s.cells.set x.cell { s.cell x.cell with pins := (s.cell x.cell).pins - 1 } }) := by
  have hpeek (h : x.use = .peek) : dropAccess x s = (releasePin x.cell s).1 := by rw [dropAccess, h]
  refine ⟨fun h => ?_, fun h hlast => ?_, fun h hmore => ?_⟩
  · unfold dropAccess
    split
    · exact absurd ‹_› h
    all_goals rfl
  · rw [hpeek h, (releasePin_lastPin s x.cell).1 hlast]
  · rw [hpeek h, (releasePin_lastPin s x.cell).2 hmore]
    rfl

theorem dropWaiter_cell (s : State) {m : MemReq} {x : CellAccess} (h : m.owner = .cell x) :
    dropWaiter s (.access m) = dropAccess x s := by
  obtain ⟨addr, body, owner, fate⟩ := m
  obtain rfl : owner = .cell x := h
  rfl

theorem dropWaiter_other (s : State) {m : MemReq} (h : ∀ x, m.owner ≠ .cell x) : dropWaiter s (.access m) = s := by
  obtain ⟨addr, body, owner, fate⟩ := m
  cases owner with
  | cell x => exact absurd rfl (h x)
  | passThrough i => rfl
  | mergeRead i => rfl
  | beatRead i => rfl
  | beatWrite i => rfl

/-! ### The end of the reset drain -/

theorem discardedCell_iff (m : MemReq) : m.discardedCell = true ↔ m.fate = .discarded ∧ ∃ x, m.owner = .cell x := by
  unfold MemReq.discardedCell
  split <;> simp [*]

theorem drained_iff (s : State) : s.drained = true ↔ DrainOver s := by
  simp only [State.drained, DrainOver, Bool.and_eq_true, List.all_eq_true, Bool.not_eq_true', ← Bool.not_eq_true,
    discardedCell_iff, decide_eq_true_eq, not_and, not_exists, ne_eq]

/-- A queue that is not FLUSHING has no flush to complete. -/
theorem tryFlush_idle {s : State} {q : QueueId} (h : (s.queue q).isFlushing = false) : tryFlush q s = s :=
  if_neg fun hdone => by
    rw [isFlushing_of_flushDone hdone] at h
    cases h

theorem tryFlush_foldl_idle {s : State} (h : ∀ q, (s.queue q).isFlushing = false) (qs : List QueueId) :
    qs.foldl (fun s q => tryFlush q s) s = s := by
  induction qs with
  | nil => rfl
  | cons q qs ih => rw [List.foldl_cons, tryFlush_idle (h q), ih]

/-- The one FLUSHING queue completes its flush, once. -/
theorem tryFlush_foldl_one {s : State} {q : QueueId} (hdone : s.flushDone q = true)
    (hothers : ∀ p, p ≠ q → (s.queue p).isFlushing = false) {qs : List QueueId} (hq : q ∈ qs) :
    qs.foldl (fun s q => tryFlush q s) s = completeFlush q s := by
  induction qs with
  | nil => cases hq
  | cons p qs ih =>
    rw [List.foldl_cons]
    by_cases hp : p = q
    · have hnone (r : QueueId) : ((completeFlush q s).queue r).isFlushing = false := by
        rw [completeFlush_isFlushing]
        split
        next => rfl
        next hr => exact hothers r hr
      rw [hp, tryFlush, if_pos hdone, tryFlush_foldl_idle hnone]
    · rw [tryFlush_idle (hothers p hp)]
      exact ih ((List.mem_cons.mp hq).resolve_left (Ne.symm hp))

theorem DrainOver.drained {s : State} (h : DrainOver s) (q : QueueId) : Drained s q := fun x hx _ => h.2 x hx

/-- The end of the drain completes the pending flush (R25, steps 8 and 9). -/
theorem endDrain_settled {s : State} (hdrain : s.drain = true) (hover : DrainOver s) : DrainSettled s (endDrain s) := by
  refine ⟨fun _ _ => ⟨fun hnone => ?_, fun q r hstate hothers => ?_⟩, fun h => ?_⟩
  · exact tryFlush_foldl_idle (s := { s with drain := false }) hnone upTo16
  · have hdone : ({ s with drain := false } : State).flushDone q = true :=
      (flushDone_iff _ q).mpr ⟨(isFlushing_iff _).mpr ⟨r, hstate⟩, hover.drained q, rfl⟩
    exact tryFlush_foldl_one hdone hothers (mem_upTo16 q)
  · obtain h | h := h
    · rw [hdrain] at h; cases h
    · exact absurd hover h

/-- The drain ends in the step in which nothing is awaited any more (R25). -/
theorem settleDrain_settled (s : State) : DrainSettled s (settleDrain s) := by
  by_cases h : s.drain = true ∧ DrainOver s
  · have htest : (s.drain && s.drained) = true := by rw [h.1, (drained_iff s).mpr h.2, Bool.true_and]
    rw [settleDrain, if_pos htest]
    exact endDrain_settled h.1 h.2
  · have htest : ¬ (s.drain && s.drained) = true := by rwa [Bool.and_eq_true, drained_iff]
    rw [settleDrain, if_neg htest]
    exact ⟨fun hdrain hover => absurd ⟨hdrain, hover⟩ h, fun _ => rfl⟩

/-- Settles O58. -/
theorem powerResetAndReleases : Obligations.PowerResetAndReleases := by
  refine ⟨fun s => rfl, fun s hpwr => if_pos hpwr, fun s => rfl, fun s hdrain hover => ?_, fun s hnot => ?_⟩
  · refine ⟨endDrain s, endDrain_settled hdrain hover, if_pos ?_⟩
    rw [hdrain, (drained_iff s).mpr hover, Bool.true_and]
  · refine if_neg fun h => ?_
    rw [Bool.and_eq_true, drained_iff] at h
    obtain hfalse | hnot := hnot
    · rw [h.1] at hfalse; cases hfalse
    · exact hnot h.2

/-! ### Acknowledgements of discarded requests -/

theorem acknowledged_head {s : State} {m : MemReq} {beats : List MemBeat} (hhead : s.outstanding.head? = some m)
    (hlength : beats.length = m.count) : s.acknowledged beats = some m := by
  cases hout : s.outstanding with
  | nil => rw [hout] at hhead; cases hhead
  | cons r rest =>
    rw [hout, List.head?_cons, Option.some.injEq] at hhead
    subst hhead
    simp [State.acknowledged, hout, hlength]

/-- Settles O59. -/
theorem discardedAcknowledged : Obligations.DiscardedAcknowledged := by
  intro s m beats hhead hlength
  have hfound := acknowledged_head hhead hlength
  refine ⟨fun hdropped => ?_, fun x hfate howner => ?_⟩
  · change execDiscardedAck beats s = _
    rw [execDiscardedAck, hfound]
    dsimp only
    obtain h | ⟨h, hother⟩ := hdropped
    · rw [h]
    · rw [h]
      dsimp only
      split
      next x hx => exact absurd hx (hother x)
      all_goals rfl
  · refine ⟨dropAccess x (retireHead s), settleDrain (dropAccess x (retireHead s)), ?_, settleDrain_settled _, ?_⟩
    · change execDiscardedAck beats s = _
      rw [execDiscardedAck, hfound]
      dsimp only
      rw [hfate]
      dsimp only
      rw [howner]
      rfl
    · obtain ⟨iq, out, h⟩ := exists_retireHead s
      rw [h]
      exact dropAccess_spec { s with issueQ := iq, outstanding := out } x

/-! ### The binding tables at SYS_RESET -/

/-- The cell that an ACTIVE put binding of an entry holds (R25, step 1). -/
def State.composedAt (s : State) (e : EntryId) : Option Nat :=
  s.putTable[e].bind (fun b => match b.state with
    | .active c => some c
    | .phantom => none
    | .voided => none)

/-- An entry holds an ACTIVE put binding whose target is the queue (R16). -/
def State.composesFor (s : State) (q : QueueId) (e : EntryId) : Bool :=
  s.putTable[e].any (fun b => decide (b.target = q) && b.isActive)

/-- The cell that an ACTIVE take binding of an entry holds (R25, step 3). -/
def State.boundAt (s : State) (e : EntryId) : Option Nat :=
  s.takeTable[e].bind (fun b => match b.state with
    | .active c => some c
    | .voided => none)

/-- A cell that SYS_RESET takes from its put binding; its in-flight count stands (log 14). -/
def Cell.dropped (x : Cell) : Cell := { Cell.freed with inFlight := x.inFlight }

/-- The put bindings of a list of entries are freed with their cells (R25, step 1). -/
def State.freedBy (s : State) (es : List EntryId) : State :=
  { s with
      cells := s.cells.mapIdx (fun c x => if c ∈ es.filterMap s.composedAt then x.dropped else x),
      freeList := s.freeList ++ es.filterMap s.composedAt,
      queues := Vector.ofFn (fun q : QueueId =>
        { s.queue q with openCount := (s.queue q).openCount - es.countP (s.composesFor q) }) }

theorem mapIdx_set_self {α : Type} (l : List α) (c : Nat) (f : α → α) (d : α) :
    l.set c (f (l.getD c d)) = l.mapIdx (fun n x => if n = c then f x else x) := by
  refine List.ext_getElem? fun n => ?_
  rw [List.getElem?_set, List.getElem?_mapIdx]
  by_cases hn : c = n
  · subst hn
    by_cases hlt : c < l.length <;> simp [hlt]
  · simp [hn, Ne.symm hn]

/-- An idempotent change made at the numbers of two lists is made at the numbers of both. -/
theorem mapIdx_mapIdx_mem {α : Type} (l : List α) (f : α → α) (hf : ∀ x, f (f x) = f x) {xs ys zs : List Nat}
    (h : ∀ c, c ∈ zs ↔ c ∈ xs ∨ c ∈ ys) :
    (l.mapIdx (fun c x => if c ∈ xs then f x else x)).mapIdx (fun c x => if c ∈ ys then f x else x) =
      l.mapIdx (fun c x => if c ∈ zs then f x else x) := by
  rw [List.mapIdx_mapIdx]
  refine congrArg (l.mapIdx ·) (funext fun c => funext fun x => ?_)
  by_cases hx : c ∈ xs <;> by_cases hy : c ∈ ys <;> simp [h c, hx, hy, hf]

theorem composedAt_active {s : State} {e : EntryId} {b : PutBinding} {c : Nat} (hentry : s.putTable[e] = some b)
    (hstate : b.state = .active c) : s.composedAt e = some c := by
  rw [State.composedAt, hentry, Option.bind_some, hstate]

theorem composesFor_active {s : State} {e : EntryId} {b : PutBinding} {c : Nat} (hentry : s.putTable[e] = some b)
    (hstate : b.state = .active c) (q : QueueId) : s.composesFor q e = decide (b.target = q) := by
  rw [State.composesFor, hentry, Option.any_some, PutBinding.isActive, hstate, Bool.and_true]

/-- Entries without an ACTIVE put binding free nothing. -/
theorem freedBy_idle {s : State} {es : List EntryId} (hcell : ∀ e ∈ es, s.composedAt e = none)
    (hqueue : ∀ e ∈ es, ∀ q, s.composesFor q e = false) : s.freedBy es = s := by
  have hnone : es.filterMap s.composedAt = [] := List.filterMap_eq_nil_iff.mpr hcell
  have hcount (q : QueueId) : es.countP (s.composesFor q) = 0 :=
    List.countP_eq_zero.mpr fun e he => by rw [hqueue e he q]; decide
  have hqueues : Vector.ofFn (fun q : QueueId => s.queue q) = s.queues :=
    Vector.ext fun k hk => by simp [State.queue]
  have hcells : s.cells.mapIdx (fun _ x => x) = s.cells := List.ext_getElem? fun n => by simp
  simp only [State.freedBy, hnone, List.not_mem_nil, if_false, hcells, List.append_nil, hcount, Nat.sub_zero, hqueues]

theorem freeBound_active {s : State} {e : EntryId} {b : PutBinding} {c : Nat} (hentry : s.putTable[e] = some b)
    (hstate : b.state = .active c) :
    freeBound s e =
      { s with
          cells := s.cells.set c (s.cell c).dropped, freeList := s.freeList ++ [c],
          queues := s.queues.set b.target { s.queue b.target with openCount := (s.queue b.target).openCount - 1 } } := by
  rw [freeBound, hentry]
  dsimp only
  rw [hstate]
  rfl

/-- An entry without an ACTIVE put binding. -/
theorem freeBound_idle {s : State} {e : EntryId} (hidle : ∀ b c, s.putTable[e] = some b → b.state ≠ .active c) :
    freeBound s e = s ∧ s.composedAt e = none ∧ ∀ q, s.composesFor q e = false := by
  rw [freeBound, State.composedAt]
  simp only [State.composesFor]
  cases hentry : s.putTable[e] with
  | none => exact ⟨rfl, rfl, fun _ => rfl⟩
  | some b =>
    simp only [Option.bind_some, Option.any_some, PutBinding.isActive]
    cases hstate : b.state with
    | active c => exact absurd hstate (hidle b c hentry)
    | phantom => exact ⟨rfl, rfl, fun _ => Bool.and_false _⟩
    | voided => exact ⟨rfl, rfl, fun _ => Bool.and_false _⟩

theorem freeBound_eq (s : State) (e : EntryId) : freeBound s e = s.freedBy [e] := by
  by_cases hactive : ∃ b c, s.putTable[e] = some b ∧ b.state = .active c
  · obtain ⟨b, c, hentry, hstate⟩ := hactive
    have hcomposed : [e].filterMap s.composedAt = [c] := by
      rw [List.filterMap_cons_some (composedAt_active hentry hstate), List.filterMap_nil]
    have hcells : s.cells.set c (s.cell c).dropped = s.cells.mapIdx (fun n x => if n = c then x.dropped else x) :=
      mapIdx_set_self s.cells c Cell.dropped Cell.freed
    have hqueues : s.queues.set b.target { s.queue b.target with openCount := (s.queue b.target).openCount - 1 } =
        Vector.ofFn (fun q : QueueId =>
          { s.queue q with openCount := (s.queue q).openCount - [e].countP (s.composesFor q) }) := by
      refine Vector.ext fun k hk => ?_
      rw [Vector.getElem_ofFn, List.countP_singleton, composesFor_active hentry hstate, Vector.getElem_set]
      by_cases hq : b.target.val = k
      · subst hq
        simp [State.queue]
      · have hne : b.target ≠ ⟨k, hk⟩ := fun h => hq (congrArg Fin.val h)
        simp [hq, hne, State.queue]
    rw [freeBound_active hentry hstate, State.freedBy, hcomposed, hcells, hqueues]
    simp only [List.mem_singleton]
  · obtain ⟨hsame, hcell, hqueue⟩ := freeBound_idle fun b c hb hc => hactive ⟨b, c, hb, hc⟩
    rw [hsame]
    exact (freedBy_idle (by simpa using hcell) (by simpa using hqueue)).symm

theorem freedBy_queue (s : State) (es : List EntryId) (q : QueueId) :
    (s.freedBy es).queue q = { s.queue q with openCount := (s.queue q).openCount - es.countP (s.composesFor q) } :=
  Vector.getElem_ofFn q.isLt

theorem freedBy_composedAt (s : State) (es : List EntryId) : (s.freedBy es).composedAt = s.composedAt := rfl
theorem freedBy_composesFor (s : State) (es : List EntryId) : (s.freedBy es).composesFor = s.composesFor := rfl

theorem freedBy_cons (s : State) (e : EntryId) (es : List EntryId) : (s.freedBy [e]).freedBy es = s.freedBy (e :: es) := by
  have hlist : (e :: es).filterMap s.composedAt = [e].filterMap s.composedAt ++ es.filterMap s.composedAt := by
    rw [← List.filterMap_append, List.singleton_append]
  have hcells : ((s.freedBy [e]).freedBy es).cells = (s.freedBy (e :: es)).cells :=
    mapIdx_mapIdx_mem s.cells Cell.dropped (fun _ => rfl) fun c => by
      rw [hlist, List.mem_append, freedBy_composedAt]
  have hfree : ((s.freedBy [e]).freedBy es).freeList = (s.freedBy (e :: es)).freeList :=
    (List.append_assoc ..).trans (congrArg (s.freeList ++ ·) hlist.symm)
  have hqueues : ((s.freedBy [e]).freedBy es).queues = (s.freedBy (e :: es)).queues := by
    refine Vector.ext fun k hk => ?_
    have hcount : (s.queue ⟨k, hk⟩).openCount - [e].countP (s.composesFor ⟨k, hk⟩) - es.countP (s.composesFor ⟨k, hk⟩) =
        (s.queue ⟨k, hk⟩).openCount - (e :: es).countP (s.composesFor ⟨k, hk⟩) := by
      rw [Nat.sub_sub, ← List.countP_append, List.singleton_append]
    change ((s.freedBy [e]).freedBy es).queue ⟨k, hk⟩ = (s.freedBy (e :: es)).queue ⟨k, hk⟩
    rw [freedBy_queue, freedBy_queue, freedBy_queue, freedBy_composesFor]
    dsimp only
    rw [hcount]
  calc (s.freedBy [e]).freedBy es
    _ = { s with cells := ((s.freedBy [e]).freedBy es).cells, freeList := ((s.freedBy [e]).freedBy es).freeList,
                 queues := ((s.freedBy [e]).freedBy es).queues } := rfl
    _ = { s with cells := (s.freedBy (e :: es)).cells, freeList := (s.freedBy (e :: es)).freeList,
                 queues := (s.freedBy (e :: es)).queues } := by rw [hcells, hfree, hqueues]
    _ = s.freedBy (e :: es) := rfl

theorem freeBound_foldl (s : State) (es : List EntryId) : es.foldl freeBound s = s.freedBy es := by
  induction es generalizing s with
  | nil => exact (freedBy_idle (fun _ h => absurd h (by simp)) fun _ h => absurd h (by simp)).symm
  | cons e es ih => rw [List.foldl_cons, ih, freeBound_eq, freedBy_cons]

/-- A cell that SYS_RESET takes from its take binding (R25, step 3). -/
def Cell.requeued (x : Cell) : Cell := { x with state := .queued }

/-- The cells of the take bindings of a list of entries are QUEUED in their places (R25, step 3). -/
def State.requeuedBy (s : State) (es : List EntryId) : State :=
  { s with cells := s.cells.mapIdx (fun c x => if c ∈ es.filterMap s.boundAt then x.requeued else x) }

theorem requeuedBy_nil {s : State} {es : List EntryId} (h : ∀ e ∈ es, s.boundAt e = none) : s.requeuedBy es = s := by
  have hnone : es.filterMap s.boundAt = [] := List.filterMap_eq_nil_iff.mpr h
  have hcells : s.cells.mapIdx (fun _ x => x) = s.cells := List.ext_getElem? fun n => by simp
  simp only [State.requeuedBy, hnone, List.not_mem_nil, if_false, hcells]

theorem requeueBound_eq (s : State) (e : EntryId) : requeueBound s e = s.requeuedBy [e] := by
  by_cases hactive : ∃ b c, s.takeTable[e] = some b ∧ b.state = .active c
  · obtain ⟨b, c, hentry, hstate⟩ := hactive
    have hbound : s.boundAt e = some c := by rw [State.boundAt, hentry, Option.bind_some, hstate]
    have hcells : s.cells.set c (s.cell c).requeued = s.cells.mapIdx (fun n x => if n = c then x.requeued else x) :=
      mapIdx_set_self s.cells c Cell.requeued Cell.freed
    have hstep : requeueBound s e = { s with cells := s.cells.set c (s.cell c).requeued } := by
      rw [requeueBound, hentry]
      dsimp only
      rw [hstate]
      rfl
    rw [hstep, hcells, State.requeuedBy, List.filterMap_cons_some hbound, List.filterMap_nil]
    simp only [List.mem_singleton]
  · have hidle : requeueBound s e = s ∧ s.boundAt e = none := by
      rw [requeueBound, State.boundAt]
      cases hentry : s.takeTable[e] with
      | none => exact ⟨rfl, rfl⟩
      | some b =>
        dsimp only [Option.bind_some]
        cases hstate : b.state with
        | active c => exact absurd ⟨b, c, hentry, hstate⟩ hactive
        | voided => exact ⟨rfl, rfl⟩
    obtain ⟨hsame, hbound⟩ := hidle
    rw [hsame, requeuedBy_nil fun f hf => List.mem_singleton.mp hf ▸ hbound]

theorem requeuedBy_boundAt (s : State) (es : List EntryId) : (s.requeuedBy es).boundAt = s.boundAt := rfl

theorem requeueBound_foldl (s : State) (es : List EntryId) : es.foldl requeueBound s = s.requeuedBy es := by
  induction es generalizing s with
  | nil => exact (requeuedBy_nil fun _ h => absurd h List.not_mem_nil).symm
  | cons e es ih =>
    have hlist : (e :: es).filterMap s.boundAt = [e].filterMap s.boundAt ++ es.filterMap s.boundAt := by
      rw [← List.filterMap_append, List.singleton_append]
    have hcells : ((s.requeuedBy [e]).requeuedBy es).cells = (s.requeuedBy (e :: es)).cells :=
      mapIdx_mapIdx_mem s.cells Cell.requeued (fun _ => rfl) fun c => by
        rw [hlist, List.mem_append, requeuedBy_boundAt]
    rw [List.foldl_cons, ih, requeueBound_eq]
    exact congrArg (fun cells => { s with cells := cells }) hcells

/-- The number of ACTIVE put bindings of a queue, entry by entry. -/
theorem composing_eq (s : State) (q : QueueId) : s.composing q = upTo16.countP (s.composesFor q) := by
  rw [State.composing, State.countPut, countP_toList]
  rfl

/-- What SYS_RESET does with the binding tables (R25, steps 1 to 5). -/
theorem resetTables_eq (s : State) :
    resetTables s =
      { s with
          drain := true, putTable := Vector.replicate 16 none, takeTable := Vector.replicate 16 none,
          freeList := s.freeList ++ s.composed,
          cells := s.cells.mapIdx (fun c x =>
            let y := if c ∈ s.composed then { Cell.freed with inFlight := x.inFlight } else x
            if c ∈ s.bound then { y with state := .queued } else y),
          queues := Vector.ofFn (fun q : QueueId =>
            { s.queue q with openCount := (s.queue q).openCount - s.composing q }) } := by
  have hcells : ((s.freedBy upTo16).requeuedBy upTo16).cells = s.cells.mapIdx (fun c x =>
      let y := if c ∈ s.composed then { Cell.freed with inFlight := x.inFlight } else x
      if c ∈ s.bound then { y with state := .queued } else y) := List.mapIdx_mapIdx
  have hqueues : ((s.freedBy upTo16).requeuedBy upTo16).queues = Vector.ofFn (fun q : QueueId =>
      { s.queue q with openCount := (s.queue q).openCount - s.composing q }) := by
    simp only [composing_eq]
    rfl
  rw [resetTables, freeBound_foldl, requeueBound_foldl, ← hcells, ← hqueues]
  rfl

theorem discard_eq (m : MemReq) : discard m = if m.fate = .live then { m with fate := .discarded } else m := by
  unfold discard
  cases m.fate <;> rfl

/-- Settles O57. -/
theorem sysResetClearsAndKeeps : Obligations.SysResetClearsAndKeeps := by
  refine ⟨fun s hsys hpwr => ?_, fun s hs q => ?_, fun s m x howner => ?_, fun s m hother => dropWaiter_other s hother,
    fun s i word => rfl⟩
  · refine ⟨assertSysReset s, ?_, ?_⟩
    · change execSysResetAssert s = _
      rw [execSysResetAssert, hsys, hpwr]
      rfl
    · have h := settleDrain_settled (s.waiting.foldl dropWaiter (resetTables (resetUnits { s with sysReset := true })))
      rw [← assertSysReset, resetTables_eq, resetUnits, mapTable_eq_map, funext discard_eq] at h
      exact h
  · rw [hs.cells.open_count, Nat.sub_self]
  · rw [dropWaiter_cell s howner]
    exact dropAccess_spec s x

end Sys2Proof.Machine
end

section
/-! PROOF. The tick: the expiries of one advance, in any number, and the part clocks of an interval (R87, R97, R98). -/

namespace Sys2Proof.Machine

/-! ### What the end of a step derives is derived again -/

/-- The state with other READY flags and lines. -/
def State.withLines (s : State) (flags : Vector EventSet 16) (a b : Bool) : State :=
  { s with flags := flags, attnA := a, attnB := b }

/-- The sticky flags of every queue are the same. -/
def SameSticky (f g : Vector EventSet 16) : Prop :=
  ∀ q : QueueId, ({ f[q] with ready := false } : EventSet) = { g[q] with ready := false }

theorem SameSticky.withReady {f g : Vector EventSet 16} (h : SameSticky f g) (q : QueueId) (ready : Bool) :
    ({ f[q] with ready := ready } : EventSet) = { g[q] with ready := ready } :=
  congrArg (fun x : EventSet => { x with ready := ready }) (h q)

/-- The end of a step looks at the sticky flags only. -/
theorem notify_withLines {s : State} {f : Vector EventSet 16} (h : SameSticky f s.flags) (a b : Bool) :
    (s.withLines f a b).notify = s.notify := by
  have hready : (s.withLines f a b).readyFlags = s.readyFlags :=
    congrArg tabulate16 (funext fun q => h.withReady q (decide (0 < s.available q)))
  rw [State.notify, State.notify, hready]
  rfl

theorem notify_eq_withLines (s : State) : s.notify = s.withLines s.notify.flags s.notify.attnA s.notify.attnB := rfl

theorem sameSticky_notify (s : State) : SameSticky s.notify.flags s.flags := fun q => by
  rw [notify_flag]

theorem notify_notify (s : State) : s.notify.notify = s.notify := by
  rw [notify_eq_withLines s, notify_withLines (sameSticky_notify s)]
  rfl

theorem acceptOffer_withLines (i : InitId) (s : State) (f : Vector EventSet 16) (a b : Bool) :
    acceptOffer i (s.withLines f a b) = (acceptOffer i s).withLines f a b := by
  have hdecode (r : Request) : decodeRequest (s.withLines f a b) i r = decodeRequest s i r :=
    decodeRequest_congr rfl (fun _ => rfl) i r
  unfold acceptOffer
  by_cases hroom : (s.accepting && decide (s.channels[i].length < Config.channelDepth)) = true
  · rw [if_pos hroom, if_pos (show ((s.withLines f a b).accepting &&
      decide ((s.withLines f a b).channels[i].length < Config.channelDepth)) = true from hroom)]
    simp only [hdecode]
    change (match s.offers[i] with
      | [] => s.withLines f a b
      | r :: rest => _) = _
    cases s.offers[i] <;> rfl
  · rw [if_neg hroom, if_neg (show ¬ ((s.withLines f a b).accepting &&
      decide ((s.withLines f a b).channels[i].length < Config.channelDepth)) = true from hroom)]

theorem respond_withLines (i : InitId) (code : RespCode) (data : List Word) (s : State) (f : Vector EventSet 16) (a b : Bool) :
    respond i code data (s.withLines f a b) = (respond i code data s).withLines f a b :=
  acceptOffer_withLines i { s with channels := s.channels.set i s.channels[i].tail, taken := s.taken.set i false,
                                   responses := s.responses ++ [{ init := i, code := code, data := data }] } f a b

theorem appendRecord_withLines (s : State) (r : FaultRecord) (f : Vector EventSet 16) (a b : Bool) :
    (s.withLines f a b).appendRecord r = (s.appendRecord r).withLines f a b := by
  have hlog : (s.withLines f a b).log = s.log := rfl
  unfold State.appendRecord
  rw [hlog]
  split <;> rfl

theorem respondFault_withLines (kind : FaultKind) (i : InitId) (addr : Addr) (k : Option ApId) (q : Option QueueId)
    (data : List Word) (s : State) (f : Vector EventSet 16) (a b : Bool) :
    respondFault kind i addr k q data (s.withLines f a b) = (respondFault kind i addr k q data s).withLines f a b := by
  rw [respondFault, respondFault, State.record, State.record, appendRecord_withLines, ← respond_withLines]
  rfl

/-- Flags raised on the same sticky flags are the same sticky flags. -/
theorem SameSticky.raise {f g : Vector EventSet 16} (h : SameSticky f g) (q : QueueId) {set : EventSet → EventSet}
    (hset : ∀ x : EventSet, ({ set x with ready := false } : EventSet) = set { x with ready := false }) :
    SameSticky (f.set q (set f[q])) (g.set q (set g[q])) := fun p => by
  rw [getElem_set_place, getElem_set_place]
  by_cases hp : p = q
  · rw [if_pos hp, if_pos hp, hset, hset, h q]
  · rw [if_neg hp, if_neg hp, h p]

/-- A held put that expires and is dropped, as one answer (R98). -/
theorem expirePut_drop {k : SlotId} {x : Slot} {s : State} {e : EntryId} (hfree : s.freePut = some e) :
    expirePut k x s = dropWrite x.init x.req x.access e ((s.vacate k).raiseExpired x.queue) := by
  have hentry := (expiring_freePut s k x.queue).trans hfree
  rw [expirePut, hentry]

theorem expirePut_full {k : SlotId} {x : Slot} {s : State} (hfree : s.freePut = none) :
    expirePut k x s = respondFault .noBinding x.init x.req.addr (some x.access.aperture) (some x.queue) []
      ((s.vacate k).raiseExpired x.queue) := by
  have hentry := (expiring_freePut s k x.queue).trans hfree
  rw [expirePut, hentry]

theorem raiseExpired_withLines (s : State) (q : QueueId) (f : Vector EventSet 16) (a b : Bool) :
    (s.withLines f a b).raiseExpired q = (s.raiseExpired q).withLines (f.set q { f[q] with expired := true }) a b := rfl

theorem raiseUnderrun_withLines (s : State) (q : QueueId) (f : Vector EventSet 16) (a b : Bool) :
    (s.withLines f a b).raiseUnderrun q = (s.raiseUnderrun q).withLines (f.set q { f[q] with underrun := true }) a b := rfl

theorem dropWrite_withLines (i : InitId) (r : Request) (w : QueueAccess) (e : EntryId) (s : State) (f : Vector EventSet 16)
    (a b : Bool) : dropWrite i r w e (s.withLines f a b) =
      (dropWrite i r w e s).withLines (f.set w.queue { f[w.queue] with lost := true }) a b := by
  rw [dropWrite_answer, dropWrite_answer, ← respond_withLines]
  rfl

theorem dropWrite_flags (i : InitId) (r : Request) (w : QueueAccess) (e : EntryId) (s : State) :
    (dropWrite i r w e s).flags = s.flags.set w.queue { s.flags[w.queue] with lost := true } := by
  rw [dropWrite_answer, respond_eq]
  rfl

/-- An expiry does not look at what the end of a step derives (R97, R98). -/
theorem expire_withLines (k : SlotId) (x : Slot) {s : State} {f : Vector EventSet 16} (h : SameSticky f s.flags) (a b : Bool) :
    (expire k x (s.withLines f a b)).notify = (expire k x s).notify := by
  have hexpired := h.raise x.queue (set := fun y => { y with expired := true }) fun _ => rfl
  have hvacate : (s.withLines f a b).vacate k = (s.vacate k).withLines f a b := rfl
  rw [expire, expire]
  cases x.kind with
  | take =>
    have hraised := (h.raise x.queue (set := fun y => { y with underrun := true }) fun _ => rfl).raise x.queue
      (set := fun y => { y with expired := true }) fun _ => rfl
    dsimp only
    rw [expireTake, expireTake, hvacate, raiseUnderrun_withLines, raiseExpired_withLines, respond_withLines]
    refine notify_withLines ?_ a b
    rw [respond_eq]
    exact hraised
  | put =>
    dsimp only
    cases hfree : s.freePut with
    | none =>
      rw [expirePut_full hfree, expirePut_full (s := s.withLines f a b) hfree, hvacate, raiseExpired_withLines,
        respondFault_withLines]
      refine notify_withLines ?_ a b
      rw [respondFault_eq, State.appendRecord_eq]
      exact hexpired
    | some e =>
      rw [expirePut_drop hfree, expirePut_drop (s := s.withLines f a b) hfree, hvacate, raiseExpired_withLines,
        dropWrite_withLines]
      refine notify_withLines ?_ a b
      rw [dropWrite_flags]
      exact hexpired.raise x.access.queue (set := fun y => { y with lost := true }) fun _ => rfl

/-- So the same expiry may be taken before or after the end of a step. -/
theorem expire_notify (k : SlotId) (x : Slot) (s : State) : (expire k x s.notify).notify = (expire k x s).notify := by
  rw [notify_eq_withLines]
  exact expire_withLines k x (sameSticky_notify s) _ _

/-! ### Expiries one after the other -/

theorem expireDue_eq_foldl (order : List SlotId) (s : State) : expireDue order s = order.foldl expireSlot s := rfl

/-- A slot that holds no due request is skipped. -/
theorem expireSlot_idle {s : State} {k : SlotId} (h : ∀ x, s.slots[k] = some x → s.due x = false) : expireSlot s k = s := by
  unfold expireSlot
  cases hslot : s.slots[k] with
  | none => rfl
  | some x => exact if_neg (Bool.eq_false_iff.mp (h x hslot))

theorem expireSlot_due {s : State} {k : SlotId} {x : Slot} (hslot : s.slots[k] = some x) (hdue : s.due x = true) :
    expireSlot s k = expire k x s := by
  unfold expireSlot
  rw [hslot]
  exact if_pos hdue

/-- With none due nothing expires. -/
theorem expireDue_idle {s : State} {order : List SlotId}
    (h : ∀ k ∈ order, ∀ x, s.slots[k] = some x → s.due x = false) : expireDue order s = s := by
  induction order with
  | nil => rfl
  | cons k ks ih =>
    rw [expireDue_cons, expireSlot_idle (h k List.mem_cons_self)]
    exact ih fun j hj => h j (List.mem_cons_of_mem k hj)

theorem due_expire (k : SlotId) (x y : Slot) (s : State) : (expire k x s).due y = s.due y := by
  rw [State.due, expire_eq]
  rfl

/-- With one due the expiries are that one. -/
theorem expireDue_one {s : State} {order : List SlotId} {k : SlotId} {x : Slot} (hk : k ∈ order) (hslot : s.slots[k] = some x)
    (hdue : s.due x = true) (hothers : ∀ j ∈ order, j ≠ k → ∀ y, s.slots[j] = some y → s.due y = false) :
    expireDue order s = expire k x s := by
  induction order with
  | nil => cases hk
  | cons j js ih =>
    rw [expireDue_cons]
    by_cases hj : j = k
    · rw [hj, expireSlot_due hslot hdue]
      refine expireDue_idle fun i hi y hy => ?_
      rw [due_expire]
      rw [(expire_slots k x s).1, getElem_set_place] at hy
      split at hy
      next => cases hy
      next hne => exact hothers i (List.mem_cons_of_mem j hi) hne y hy
    · rw [expireSlot_idle (hothers j List.mem_cons_self hj)]
      exact ih ((List.mem_cons.mp hk).resolve_left (Ne.symm hj)) fun i hi => hothers i (List.mem_cons_of_mem j hi)

theorem findHeld_eq_none_iff {s : State} {p : Slot → Bool} :
    s.findHeld p = none ↔ ∀ k ∈ s.arrival, ∀ x, s.slots[k] = some x → p x = false := by
  rw [State.findHeld, List.findSome?_eq_none_iff]
  refine forall₂_congr fun k _ => ?_
  cases s.slots[k] with
  | none => simp
  | some x => simp

/-- A due held request that a search finds. -/
theorem due_of_dueHeld {s : State} {kind : HeldKind} {i : InitId} {k : SlotId} {x : Slot}
    (h : s.dueHeld kind i = some (k, x)) :
    k ∈ s.arrival ∧ s.slots[k] = some x ∧ x.kind = kind ∧ x.init = i ∧ s.due x = true := by
  obtain ⟨before, after, harrival, hslot, hkind, hinit, hdeadline, -⟩ := dueHeld_eq_some_iff.mp h
  exact ⟨harrival ▸ List.mem_append_right before List.mem_cons_self, hslot, hkind, hinit, (due_iff s x).mpr hdeadline⟩

theorem dueHeld_eq_none_iff {s : State} {kind : HeldKind} {i : InitId} :
    s.dueHeld kind i = none ↔
      ∀ k ∈ s.arrival, ∀ x, s.slots[k] = some x → x.kind = kind → x.init = i → s.due x = false := by
  rw [State.dueHeld, findHeld_eq_none_iff]
  simp only [Bool.and_eq_false_imp, Bool.and_eq_true, decide_eq_true_eq, and_imp]

/-- Each initiator has at most one held request. -/
def HeldOnce (s : State) : Prop :=
  ∀ j ∈ s.arrival, ∀ k ∈ s.arrival, ∀ x y, s.slots[j] = some x → s.slots[k] = some y → x.init = y.init → j = k

/-- Then a search finds each due request. -/
theorem dueHeld_of_due {s : State} (honce : HeldOnce s) {k : SlotId} {x : Slot} (hk : k ∈ s.arrival)
    (hslot : s.slots[k] = some x) (hdue : s.due x = true) : s.dueHeld x.kind x.init = some (k, x) := by
  cases hfound : s.dueHeld x.kind x.init with
  | none =>
    rw [dueHeld_eq_none_iff.mp hfound k hk x hslot rfl rfl] at hdue
    cases hdue
  | some p =>
    obtain ⟨j, y⟩ := p
    obtain ⟨hj, hy, -, hinit, -⟩ := due_of_dueHeld hfound
    obtain rfl : j = k := honce j hj k hk y x hy hslot hinit
    rw [Option.some.inj (hy.symm.trans hslot)]

/-! ### Expiry commands -/

/-- The command of an expiry by its kind and its initiator. -/
def expiryCommand : HeldKind × InitId → Instr
  | (.take, i) => .heldTakeExpiry i
  | (.put, i) => .heldPutExpiry i

/-- The kind and the initiator of a held request. -/
def Slot.key (x : Slot) : HeldKind × InitId := (x.kind, x.init)

theorem expiry_eq (x : Slot) : x.expiry = expiryCommand x.key := by
  rw [Slot.expiry, Slot.key]
  cases x.kind <;> rfl

/-- The expiry of the due held request of a kind and an initiator. -/
def expireKey (s : State) (p : HeldKind × InitId) : State :=
  match s.dueHeld p.1 p.2 with
  | some (k, x) => expire k x s
  | none => s

theorem expireKey_some {s : State} {p : HeldKind × InitId} {k : SlotId} {x : Slot} (h : s.dueHeld p.1 p.2 = some (k, x)) :
    expireKey s p = expire k x s := by rw [expireKey, h]

theorem expireKey_none {s : State} {p : HeldKind × InitId} (h : s.dueHeld p.1 p.2 = none) : expireKey s p = s := by
  rw [expireKey, h]

theorem expireKey_notify (s : State) (p : HeldKind × InitId) : (expireKey s.notify p).notify = (expireKey s p).notify := by
  have hsame : s.notify.dueHeld p.1 p.2 = s.dueHeld p.1 p.2 := rfl
  cases h : s.dueHeld p.1 p.2 with
  | none => rw [expireKey_none h, expireKey_none (hsame.trans h), notify_notify]
  | some kx => rw [expireKey_some h, expireKey_some (hsame.trans h), expire_notify]

/-- A found expiry command makes the expiry. -/
theorem exec_expiryCommand {s : State} {p : HeldKind × InitId} {k : SlotId} {x : Slot}
    (h : s.dueHeld p.1 p.2 = some (k, x)) : exec (expiryCommand p) s = .next (expire k x s).notify := by
  obtain ⟨kind, i⟩ := p
  obtain ⟨-, -, hkind, -, -⟩ := due_of_dueHeld h
  cases kind with
  | take =>
    rw [expire, show x.kind = .take from hkind]
    exact heldTakeExpiry_found h
  | put =>
    rw [expire, show x.kind = .put from hkind]
    exact heldPutExpiry_found h

/-- An expiry command with nothing to expire changes nothing. -/
theorem exec_expiryCommand_none {s : State} {p : HeldKind × InitId} (h : s.dueHeld p.1 p.2 = none) :
    exec (expiryCommand p) s = .next s := by
  obtain ⟨kind, i⟩ := p
  cases kind with
  | take =>
    change execHeldTakeExpiry i s = _
    rw [execHeldTakeExpiry, show s.dueHeld .take i = none from h]
  | put =>
    change execHeldPutExpiry i s = _
    rw [execHeldPutExpiry, show s.dueHeld .put i = none from h]

theorem after_expiryCommand (s : State) (p : HeldKind × InitId) :
    (s.after (expiryCommand p)).notify = (expireKey s p).notify := by
  cases h : s.dueHeld p.1 p.2 with
  | none => rw [State.after, exec_expiryCommand_none h, expireKey_none h]
  | some kx => rw [State.after, exec_expiryCommand h, expireKey_some h, notify_notify]

/-- Expiry commands one after the other make the expiries one after the other. -/
theorem after_foldl (keys : List (HeldKind × InitId)) {s u : State} (h : s.notify = u.notify) :
    ((keys.map expiryCommand).foldl State.after s).notify = (keys.foldl expireKey u).notify := by
  induction keys generalizing s u with
  | nil => exact h
  | cons p keys ih =>
    refine ih ?_
    rw [after_expiryCommand, ← expireKey_notify s, h, expireKey_notify]

/-! ### The expiries of an advance, by slot and by initiator -/

/-- What a run of expiries leaves: the tick count, and each slot as it was or empty. -/
structure Expiring (s u : State) : Prop where
  tickCount : u.tickCount = s.tickCount
  slots : ∀ k : SlotId, u.slots[k] = s.slots[k] ∨ u.slots[k] = none
  subset : u.arrival ⊆ s.arrival
  arrival : ∀ k ∈ s.arrival, u.slots[k] ≠ none → k ∈ u.arrival

theorem Expiring.refl (s : State) : Expiring s s := ⟨rfl, fun _ => .inl rfl, List.Subset.refl _, fun _ hk _ => hk⟩

theorem Expiring.due {s u : State} (h : Expiring s u) (x : Slot) : u.due x = s.due x := by
  rw [State.due, h.tickCount]
  rfl

theorem Expiring.expireSlot {s u : State} (h : Expiring s u) (k : SlotId) : Expiring s (expireSlot u k) := by
  by_cases hidle : ∀ x, u.slots[k] = some x → u.due x = false
  · rwa [expireSlot_idle hidle]
  · obtain ⟨x, hslot, hdue⟩ : ∃ x, u.slots[k] = some x ∧ u.due x = true := by simpa using hidle
    rw [expireSlot_due hslot hdue]
    obtain ⟨hslots, harrival⟩ := expire_slots k x u
    refine ⟨?_, fun j => ?_, ?_, fun j hj hne => ?_⟩
    · rw [expire_eq]
      exact h.tickCount
    · rw [hslots, getElem_set_place]
      split
      · exact .inr rfl
      · exact h.slots j
    · rw [harrival]
      exact List.Subset.trans List.filter_sublist.subset h.subset
    · rw [hslots, getElem_set_place] at hne
      split at hne
      next => exact absurd rfl hne
      next hjk =>
        rw [harrival]
        exact List.mem_filter.mpr ⟨h.arrival j hj hne, decide_eq_true hjk⟩

theorem Expiring.heldOnce {s u : State} (h : Expiring s u) (honce : HeldOnce s) : HeldOnce u := by
  have hslot (j : SlotId) (x : Slot) (hx : u.slots[j] = some x) : s.slots[j] = some x := by
    obtain hsame | hnone := h.slots j
    · rw [← hsame, hx]
    · rw [hnone] at hx; cases hx
  exact fun j hj k hk x y hx hy => honce j (h.subset hj) k (h.subset hk) x y (hslot j x hx) (hslot k y hy)

/-- A request that is still held is the one that was held. -/
theorem Expiring.slot_eq {s u : State} (h : Expiring s u) {k : SlotId} {x : Slot} (hx : u.slots[k] = some x) :
    s.slots[k] = some x := by
  obtain hsame | hnone := h.slots k
  · rw [← hsame, hx]
  · rw [hnone] at hx; cases hx

/-- An expiry named before the first one is the expiry of its slot. -/
theorem Expiring.expireKey_some {s u : State} (h : Expiring s u) (honce : HeldOnce s) {p : HeldKind × InitId} {k : SlotId}
    {x : Slot} (hfound : s.dueHeld p.1 p.2 = some (k, x)) : expireKey u p = Machine.expireSlot u k := by
  obtain ⟨hk, hslot, hkind, hinit, hdue⟩ := due_of_dueHeld hfound
  obtain hsame | hnone := h.slots k
  · have hheld : u.slots[k] = some x := hsame.trans hslot
    have hdueu : u.due x = true := (h.due x).trans hdue
    have hfoundu := dueHeld_of_due (h.heldOnce honce) (h.arrival k hk (by rw [hheld]; simp)) hheld hdueu
    rw [hkind, hinit] at hfoundu
    rw [Machine.expireKey_some hfoundu, expireSlot_due hheld hdueu]
  · rw [expireSlot_idle fun y hy => by rw [hnone] at hy; cases hy]
    refine expireKey_none (dueHeld_eq_none_iff.mpr fun j hj y hy hykind hyinit => ?_)
    obtain rfl : j = k := honce j (h.subset hj) k hk y x (h.slot_eq hy) hslot (hyinit.trans hinit.symm)
    rw [hnone] at hy
    cases hy

/-- An expiry that names no due request changes nothing later either. -/
theorem Expiring.expireKey_none {s u : State} (h : Expiring s u) {p : HeldKind × InitId} (hnone : s.dueHeld p.1 p.2 = none) :
    expireKey u p = u :=
  Machine.expireKey_none (dueHeld_eq_none_iff.mpr fun k hk x hx hkind hinit =>
    (h.due x).trans (dueHeld_eq_none_iff.mp hnone k (h.subset hk) x (h.slot_eq hx) hkind hinit))

/-- The expiry of a slot is that of its initiator. -/
theorem Expiring.expireKey_slot {s u : State} (h : Expiring s u) (honce : HeldOnce s) {k : SlotId} {x : Slot}
    (hk : k ∈ s.arrival) (hslot : s.slots[k] = some x) : expireKey u x.key = Machine.expireSlot u k := by
  cases hdue : s.due x with
  | true => exact h.expireKey_some honce (dueHeld_of_due honce hk hslot hdue)
  | false =>
    rw [expireSlot_idle fun y hy => ?_]
    · refine h.expireKey_none (dueHeld_eq_none_iff.mpr fun j hj y hy _ hinit => ?_)
      obtain rfl : j = k := honce j hj k hk y x hy hslot hinit
      rw [← Option.some.inj (hslot.symm.trans hy), hdue]
    · rw [h.due, ← Option.some.inj (hslot.symm.trans (h.slot_eq hy)), hdue]

/-- The expiries of the slots that commands name are those of the commands. -/
theorem Expiring.foldl_named {s u : State} (h : Expiring s u) (honce : HeldOnce s) (keys : List (HeldKind × InitId)) :
    (keys.filterMap fun p => (s.dueHeld p.1 p.2).map Prod.fst).foldl Machine.expireSlot u = keys.foldl expireKey u ∧
      Expiring s (keys.foldl expireKey u) := by
  induction keys generalizing u with
  | nil => exact ⟨rfl, h⟩
  | cons p keys ih =>
    cases hfound : s.dueHeld p.1 p.2 with
    | none =>
      rw [List.filterMap_cons_none (by rw [hfound]; rfl), List.foldl_cons, h.expireKey_none hfound]
      exact ih h
    | some kx =>
      rw [List.filterMap_cons_some (by rw [hfound]; rfl), List.foldl_cons, List.foldl_cons, h.expireKey_some honce hfound]
      exact ih (h.expireSlot kx.1)

/-- The expiries of a list of slots are those of their initiators. -/
theorem Expiring.foldl_slots {s u : State} (h : Expiring s u) (honce : HeldOnce s) {order : List SlotId}
    (horder : order ⊆ s.arrival) :
    order.foldl Machine.expireSlot u = (order.filterMap fun k => s.slots[k].map Slot.key).foldl expireKey u := by
  induction order generalizing u with
  | nil => rfl
  | cons k ks ih =>
    obtain ⟨hk, hks⟩ := List.cons_subset.mp horder
    cases hslot : s.slots[k] with
    | none =>
      have hidle : Machine.expireSlot u k = u := expireSlot_idle fun x hx => by
        rw [h.slot_eq hx] at hslot
        cases hslot
      rw [List.filterMap_cons_none (by rw [hslot]; rfl), List.foldl_cons, hidle]
      exact ih h hks
    | some x =>
      rw [List.filterMap_cons_some (by rw [hslot]; rfl), List.foldl_cons, List.foldl_cons, h.expireKey_slot honce hk hslot]
      exact ih (h.expireSlot k) hks

/-- The expiries of an advance are those that the commands waiting next name and then those of the slots in arrival order. -/
theorem expireDue_eq_keys {s : State} (honce : HeldOnce s) :
    expireDue s.expiryOrder s =
      (expiriesOf s.pending ++ s.arrival.filterMap fun k => s.slots[k].map Slot.key).foldl expireKey s := by
  obtain ⟨hnamed, hexpiring⟩ := (Expiring.refl s).foldl_named honce (expiriesOf s.pending)
  rw [expireDue_eq_foldl, State.expiryOrder, List.foldl_append, List.foldl_append, hnamed,
    hexpiring.foldl_slots honce (List.Subset.refl _)]

/-- The expiry commands at the front of a queue of commands. -/
theorem expiriesOf_append (keys : List (HeldKind × InitId)) {rest : List Instr}
    (hrest : ∀ c, rest.head? = some c → ∀ i, c ≠ .heldTakeExpiry i ∧ c ≠ .heldPutExpiry i) :
    expiriesOf (keys.map expiryCommand ++ rest) = keys := by
  induction keys with
  | nil =>
    cases rest with
    | nil => rfl
    | cons c rest =>
      have hc := hrest c rfl
      rw [List.map_nil, List.nil_append]
      unfold expiriesOf
      split
      next heq => exact absurd (List.cons.inj heq).1 (hc _).1
      next heq => exact absurd (List.cons.inj heq).1 (hc _).2
      next => rfl
  | cons p keys ih =>
    obtain ⟨kind, i⟩ := p
    rw [List.map_cons, List.cons_append]
    cases kind <;> exact congrArg (_ :: ·) ih

theorem exists_expiryKeys {named : List Instr} (h : ∀ c ∈ named, ∃ i, c = .heldTakeExpiry i ∨ c = .heldPutExpiry i) :
    ∃ keys : List (HeldKind × InitId), named = keys.map expiryCommand := by
  induction named with
  | nil => exact ⟨[], rfl⟩
  | cons c named ih =>
    obtain ⟨keys, rfl⟩ := ih fun d hd => h d (List.mem_cons_of_mem c hd)
    obtain ⟨i, rfl | rfl⟩ := h c List.mem_cons_self
    · exact ⟨(.take, i) :: keys, rfl⟩
    · exact ⟨(.put, i) :: keys, rfl⟩

/-! ### Part clocks -/

theorem run_succ {M : Host.Core} (n : Nat) {s t : M.State} (h : M.step s = .next t) : M.run (n + 1) s = M.run n t := by
  rw [Host.Core.run, h]

theorem step_partClock {s : State} (h : s.pending = []) : step s = partClock s := by rw [step, h]

/-- The part clocks that are left of the tick in progress, on an empty queue of commands, make one advance (R87; log 9). -/
theorem run_partClocks (n : Nat) {s : State} (hpending : s.pending = []) (hpwr : s.pwrReset = false)
    (hleft : s.tickElapsed + (n + 1) = s.tickInterval) :
    Sys2Proof.core.run (n + 1) s = .next (advanceTick s).notify := by
  have hrunning : ¬ s.pwrReset = true := ne_true_of_eq_false hpwr
  induction n generalizing s with
  | zero =>
    refine run_succ (M := Sys2Proof.core) 0 ((step_partClock hpending).trans ?_)
    rw [partClock, if_neg hrunning, if_neg (by omega)]
    rfl
  | succ n ih =>
    have hstep : step s = .next { s with tickElapsed := s.tickElapsed + 1 } := by
      rw [step_partClock hpending, partClock, if_neg hrunning, if_pos (by omega)]
    have hrest : s.tickElapsed + 1 + (n + 1) = s.tickInterval := by omega
    rw [run_succ (M := Sys2Proof.core) (n + 1) hstep,
      ih (s := { s with tickElapsed := s.tickElapsed + 1 }) hpending hpwr hrest hrunning]
    rfl

theorem exec_tickAdvance {s : State} (hpwr : s.pwrReset = false) : exec .tickAdvance s = .next (advanceTick s).notify :=
  if_neg (ne_true_of_eq_false hpwr)

theorem ticked_due (s : State) (x : Slot) : s.ticked.due x = true ↔ x.deadline = s.tickCount + 1#32 := due_iff s.ticked x

/-- What is not due when the count advances. -/
theorem ticked_due_eq_false {s : State} {x : Slot} (h : x.deadline ≠ s.tickCount + 1#32) : s.ticked.due x = false :=
  Bool.eq_false_iff.mpr (mt (ticked_due s x).mp h)

/-- Every slot of the order of the expiries stands in the arrival list. -/
theorem expiryOrder_subset (s : State) : s.expiryOrder ⊆ s.arrival := by
  intro k hk
  obtain hk | hk := List.mem_append.mp hk
  · obtain ⟨p, -, hp⟩ := List.mem_filterMap.mp hk
    obtain ⟨⟨j, x⟩, hfound, rfl⟩ := Option.map_eq_some_iff.mp hp
    exact (due_of_dueHeld hfound).1
  · exact hk

/-- Settles O3. -/
theorem ticksAdvance : Obligations.TicksAdvance := by
  refine ⟨fun s hpwr hnone => ?_, fun s hpwr => ⟨_, exec_tickAdvance hpwr, ?_, ?_, advanceTick_noneOverdue s, ?_⟩,
    fun s k x hpwr hfound hothers => ?_, fun s named rest hpwr hpending hnamed hrest honce => ?_,
    fun s hpending hpwr helapsed => ?_⟩
  · have hidle : expireDue s.ticked.expiryOrder s.ticked = s.ticked :=
      expireDue_idle fun k hk x hx => ticked_due_eq_false (hnone k (expiryOrder_subset s.ticked hk) x hx)
    rw [exec_tickAdvance hpwr, advanceTick_eq, hidle]
    rfl
  · exact advanceTick_tickCount s
  · change (advanceTick s).tickElapsed = 0
    rw [advanceTick_eq, expireDue_eq]
    rfl
  · intro k x hslot hdeadline
    change (advanceTick s).slots[k] = some x
    have hticked : s.ticked.slots[k] = some x := hslot
    rw [advanceTick_eq, expireDue_slots, hticked]
    simp [ticked_due_eq_false hdeadline]
  · have hticked : s.ticked.dueHeld x.key.1 x.key.2 = some (k, x) := hfound
    obtain ⟨hk, hslot, -, -, hdue⟩ := due_of_dueHeld hticked
    have hone : expireDue s.ticked.expiryOrder s.ticked = expire k x s.ticked :=
      expireDue_one (List.mem_append_right _ hk) hslot hdue fun j hj hne y hy =>
        ticked_due_eq_false (hothers j (expiryOrder_subset s.ticked hj) hne y hy)
    rw [exec_tickAdvance hpwr, advanceTick_eq, hone, expiry_eq]
    exact (exec_expiryCommand hticked).symm
  · obtain ⟨keys, rfl⟩ := exists_expiryKeys hnamed
    have honce : HeldOnce s.ticked := honce
    have hkeys : expiriesOf s.ticked.pending = keys := by
      rw [show s.ticked.pending = s.pending from rfl, hpending, expiriesOf_append keys hrest]
    have hslots : s.arrival.filterMap (fun k => s.slots[k].map Slot.expiry) =
        (s.arrival.filterMap fun k => s.slots[k].map Slot.key).map expiryCommand := by
      rw [List.map_filterMap]
      refine List.filterMap_congr fun k _ => ?_
      rw [Option.map_map]
      exact congrArg (Option.map · s.slots[k]) (funext expiry_eq)
    rw [exec_tickAdvance hpwr, advanceTick_eq, expireDue_eq_keys honce, hkeys, hslots, ← List.map_append]
    exact congrArg _ (after_foldl _ rfl).symm
  · obtain ⟨n, hn⟩ : ∃ n, s.tickInterval - s.tickElapsed = n + 1 := ⟨s.tickInterval - s.tickElapsed - 1, by omega⟩
    rw [hn, run_partClocks n hpending hpwr (by omega), exec_tickAdvance hpwr]
    rfl

end Sys2Proof.Machine
end

section
/-! PROOF. AccountingKept fails. The accounting of an initiator's request (`OneRequestEach.merging`) says that a merge write in
progress has its beat among those of the request, but nothing in `Accounted` says that a request in a channel carries a beat at
all (R156): REQUEST_ACCEPT admits no other, and a state need not be one that REQUEST_ACCEPT made. MERGE_WRITE of a request
without beats begins with beat 0, which is then none of the request's. -/

namespace Sys2Proof.Machine

/-- A write without beats that hit a MERGE entry of operation SET. -/
def beatlessMerge : Accepted := { req := { addr := 0, body := .write [] }, decoded := .merge .set 0 0 0 }

/-- The part after PWR_RESET with steering ON, but with a write without beats in the channel of initiator 0. -/
def beatlessState : State :=
  { State.reset with steering := .on, channels := State.reset.channels.set 0 [beatlessMerge], pending := [.mergeWrite 0] }

/-- The accounting says nothing about the number of beats of a request that no block has taken. -/
theorem beatlessState_accounted : Accounted beatlessState := by
  obtain ⟨hcells, hkeys, haccesses, hrequests, -⟩ : Accounted State.reset := Tests.witness_AccountingKept
  have hslots (k : SlotId) : State.reset.slots[k] = none := by simp [State.reset]
  have hmerges (i : InitId) : State.reset.merges[i] = none := by simp [State.reset]
  refine ⟨{ hcells with }, { hkeys with }, { haccesses with off := nofun }, { hrequests with held := ?_, serves := ?_, merging := ?_ },
    nofun⟩
  · exact fun k x hk => absurd ((hslots k).symm.trans hk) nofun
  · exact nofun
  · exact fun i b hb => absurd ((hmerges i).symm.trans hb) nofun

/-- The state after MERGE_WRITE of the request without beats: its merge stands at beat 0. -/
def beatlessBegun : State :=
  ({ beatlessState with pending := [] }.take 0).setMerge 0 (some { beat := 0, stage := .arriving })

theorem step_beatlessState : step beatlessState = .next beatlessBegun := rfl

/-- Beat 0 is none of the request's beats. -/
theorem beatlessBegun_not_accounted : ¬ Accounted beatlessBegun := by
  intro h
  obtain ⟨r, op, mask, target, k, hhead, -, hbeat, -⟩ := h.requests.merging 0 { beat := 0, stage := .arriving } rfl
  obtain rfl : r = beatlessMerge.req := congrArg Accepted.req (Option.some.inj hhead).symm
  exact Nat.not_lt_zero _ hbeat

/-- Refutes O60: `beatlessState` meets the accounting, and MERGE_WRITE, its next step, begins a merge with a beat that the
request does not have. -/
theorem not_accountingKept : ¬ Obligations.AccountingKept := fun h =>
  beatlessBegun_not_accounted (h.1 _ _ beatlessState_accounted step_beatlessState)

end Sys2Proof.Machine
end

section
/-! PROOF. What a held request waits for (R91): the room of its queue under a held put, an available cell under a held take. What an
update of cells, queues and slots does to both. -/

namespace Sys2Proof.Machine

/-! ### What the room and the available cells come from -/

/-- What a held request waits for in its queue's context: the state, the Limit, the open count and the committed list. -/
def QueueCtx.stock (x : QueueCtx) : QueueState × Nat × Nat × List Nat := (x.state, x.config.limit, x.openCount, x.committed)

/-- What the fullness and the oldest available cell of the queues come from (R19), with the reset drain. -/
def State.place (s : State) := (s.drain, s.freeList, s.cells, fun q => (s.queue q).stock)

/-- The same, with the held requests. -/
def State.stock (s : State) := (s.place, s.slots, s.arrival)

section
variable {s t u : State}

theorem place_drain (h : t.place = s.place) : t.drain = s.drain := congrArg Prod.fst h

theorem place_queue (h : t.place = s.place) (q : QueueId) : (t.queue q).stock = (s.queue q).stock :=
  congrFun (congrArg (fun p => p.2.2.2) h) q

theorem full_congr (h : t.place = s.place) (q : QueueId) : t.full q = s.full q := by
  have hqueue := place_queue h q
  simp only [State.place, Prod.mk.injEq] at h
  simp only [QueueCtx.stock, Prod.mk.injEq] at hqueue
  obtain ⟨-, hfree, hcells, -⟩ := h
  obtain ⟨-, hlimit, hopen, hcommitted⟩ := hqueue
  simp only [State.full, State.holding, State.heldOutCount, State.heldOut, hfree, hcells, hlimit, hopen, hcommitted]
  rfl

theorem oldest_congr (h : t.place = s.place) (q : QueueId) : t.oldest q = s.oldest q := by
  have hqueue := place_queue h q
  simp only [State.place, Prod.mk.injEq] at h
  simp only [QueueCtx.stock, Prod.mk.injEq] at hqueue
  obtain ⟨-, -, hcells, -⟩ := h
  obtain ⟨-, -, -, hcommitted⟩ := hqueue
  simp only [State.oldest, State.cell, hcells, hcommitted]
  rfl

theorem setQueue_place {q : QueueId} {x : QueueCtx} (h : x.stock = (s.queue q).stock) : (s.setQueue q x).place = s.place := by
  have hqueue (p : QueueId) : ((s.setQueue q x).queue p).stock = (s.queue p).stock := by
    by_cases hp : p = q
    · rw [hp, State.setQueue_queue_self, h]
    · rw [State.setQueue_queue_ne _ hp]
  simp only [State.place, hqueue]
  rfl

/-! ### Updates that touch none of it -/

@[simp] theorem respond_stock (i : InitId) (code : RespCode) (data : List Word) (s : State) :
    (respond i code data s).stock = s.stock := by rw [respond_eq]; rfl
@[simp] theorem appendRecord_stock (s : State) (r : FaultRecord) : (s.appendRecord r).stock = s.stock := by
  rw [State.appendRecord_eq]; rfl
@[simp] theorem respondFault_stock (kind : FaultKind) (i : InitId) (addr : Addr) (k : Option ApId) (q : Option QueueId)
    (data : List Word) (s : State) : (respondFault kind i addr k q data s).stock = s.stock :=
  (respond_stock ..).trans (appendRecord_stock ..)
@[simp] theorem acceptOffer_stock (i : InitId) (s : State) : (acceptOffer i s).stock = s.stock := by rw [acceptOffer_eq]; rfl
@[simp] theorem offerRequest_stock (i : InitId) (r : Request) (s : State) : (offerRequest i r s).stock = s.stock := rfl
@[simp] theorem take_stock (s : State) (i : InitId) : (s.take i).stock = s.stock := rfl
@[simp] theorem issue_stock (r : MemReq) (s : State) : (issue r s).stock = s.stock := by rw [issue_eq]; rfl
@[simp] theorem present_stock (s : State) : (present s).stock = s.stock := by rw [present_eq]; rfl
@[simp] theorem retireHead_stock (s : State) : (retireHead s).stock = s.stock := by rw [retireHead_eq]; rfl
@[simp] theorem handOver_stock (r : MemReq) (s : State) : (handOver r s).stock = s.stock := by rw [handOver_eq]; rfl
@[simp] theorem settleWaiters_stock (s : State) : (settleWaiters s).stock = s.stock := by rw [settleWaiters_eq]; rfl
@[simp] theorem releaseLock_stock (i : InitId) (s : State) : (releaseLock i s).stock = s.stock := by rw [releaseLock_eq]; rfl
@[simp] theorem takeLock_stock (i : InitId) (word : Addr) (s : State) : (takeLock i word s).stock = s.stock := rfl
@[simp] theorem setMerge_stock (s : State) (i : InitId) (m : Option MergeBeat) : (s.setMerge i m).stock = s.stock := rfl
@[simp] theorem setStage_stock (i : InitId) (stage : BeatStage) (s : State) : (setStage i stage s).stock = s.stock := rfl
@[simp] theorem setLatch_stock (s : State) (i : InitId) (l : Latch) : (s.setLatch i l).stock = s.stock := rfl
@[simp] theorem invalidate_stock (i : InitId) (s : State) : (invalidate i s).stock = s.stock := rfl
@[simp] theorem lockWriting_stock (i : InitId) (s : State) : (lockWriting i s).stock = s.stock := rfl
@[simp] theorem endMerge_stock (i : InitId) (s : State) : (endMerge i s).stock = s.stock := releaseLock_stock ..
@[simp] theorem mergeFault_stock (kind : FaultKind) (i : InitId) (m : MergeAccess) (s : State) :
    (mergeFault kind i m s).stock = s.stock := respondFault_stock ..
@[simp] theorem notify_stock (s : State) : s.notify.stock = s.stock := rfl
@[simp] theorem setPut_stock (s : State) (e : EntryId) (b : Option PutBinding) : (s.setPut e b).stock = s.stock := rfl
@[simp] theorem setTake_stock (s : State) (e : EntryId) (b : Option TakeBinding) : (s.setTake e b).stock = s.stock := rfl
@[simp] theorem updFlags_stock (s : State) (q : QueueId) (f : EventSet → EventSet) : (s.updFlags q f).stock = s.stock := rfl
@[simp] theorem releaseSelect_stock (s : State) : s.releaseSelect.stock = s.stock := rfl
@[simp] theorem sendMdo_stock (s : State) (n : Nat) : (s.sendMdo n).stock = s.stock := rfl
@[simp] theorem clockBytes_stock (n : Nat) (left : List Byte) (s : State) : (clockBytes n left s).stock = s.stock := rfl
@[simp] theorem replied_stock (s : State) (status : Byte) (data : List Byte) : (s.replied status data).stock = s.stock := rfl

/-- A count of an event leaves what the held requests wait for. -/
theorem updQueue_stock {q : QueueId} {f : QueueCtx → QueueCtx} (h : (f (s.queue q)).stock = (s.queue q).stock) :
    (s.updQueue q f).stock = s.stock :=
  congrArg (fun p => (p, s.slots, s.arrival)) (setQueue_place h)

@[simp] theorem raiseLost_stock (s : State) (q : QueueId) : (s.raiseLost q).stock = s.stock := by
  rw [State.raiseLost, updFlags_stock]
  exact updQueue_stock rfl
@[simp] theorem raiseUnderrun_stock (s : State) (q : QueueId) : (s.raiseUnderrun q).stock = s.stock := by
  rw [State.raiseUnderrun, updFlags_stock]
  exact updQueue_stock rfl
@[simp] theorem raiseExpired_stock (s : State) (q : QueueId) : (s.raiseExpired q).stock = s.stock := by
  rw [State.raiseExpired, updFlags_stock]
  exact updQueue_stock rfl
@[simp] theorem raiseDiverted_stock (s : State) (q : QueueId) : (s.raiseDiverted q).stock = s.stock := by
  rw [State.raiseDiverted, updFlags_stock]
  exact updQueue_stock rfl

@[simp] theorem dropWrite_stock (i : InitId) (r : Request) (a : QueueAccess) (e : EntryId) (s : State) :
    (dropWrite i r a e s).stock = s.stock := by
  unfold dropWrite
  dsimp only
  split <;> simp

@[simp] theorem freePutBinding_stock (i : InitId) (q : QueueId) (s : State) : (freePutBinding i q s).stock = s.stock := by
  unfold freePutBinding
  split <;> rfl

@[simp] theorem freeTakeBinding_stock (i : InitId) (q : QueueId) (s : State) : (freeTakeBinding i q s).stock = s.stock := by
  unfold freeTakeBinding
  split <;> rfl

/-! ### Fullness and the oldest available cell -/

theorem oldest_eq_none_iff {q : QueueId} : s.oldest q = none ↔ ∀ c ∈ (s.queue q).committed, (s.cell c).state ≠ .queued := by
  rw [State.oldest, List.find?_eq_none]
  simp

theorem available_eq_zero_iff {q : QueueId} : s.available q = 0 ↔ s.oldest q = none := by
  rw [oldest_eq_none_iff, State.available, State.committedIn, List.length_eq_zero_iff, List.filter_eq_nil_iff]
  simp

theorem heldOutCount_mono {q : QueueId} (hlength : t.cells.length = s.cells.length)
    (h : ∀ c, s.heldOut q c (s.cell c) = true → t.heldOut q c (t.cell c) = true) : s.heldOutCount q ≤ t.heldOutCount q := by
  rw [heldOutCount_eq, heldOutCount_eq, hlength]
  refine List.countP_mono_left fun c _ hc => ?_
  rw [← heldOut_eq] at hc ⊢
  exact h c hc

/-- A queue whose holding does not fall stays full, where no cell joins the Free List (R19). -/
theorem full_mono {q : QueueId} (hlimit : (t.queue q).config.limit = (s.queue q).config.limit)
    (hholding : s.holding q ≤ t.holding q) (hfree : s.freeList = [] → t.freeList = []) (h : s.full q = true) :
    t.full q = true := by
  rw [full_iff] at h ⊢
  rw [hlimit]
  exact h.imp (fun hle => hle.trans hholding) hfree

/-- A write of a queue that lists no further TAKEN cell and counts no fewer cells in all. -/
theorem holding_setQueue {q : QueueId} {y : QueueCtx}
    (htaken : ∀ c ∈ y.committed, (s.cell c).state = .taken → c ∈ (s.queue q).committed)
    (hcount : (s.queue q).openCount + (s.queue q).committed.length ≤ y.openCount + y.committed.length) :
    s.holding q ≤ (s.setQueue q y).holding q := by
  have hheld : s.heldOutCount q ≤ (s.setQueue q y).heldOutCount q := heldOutCount_mono rfl fun c hc => by
    obtain ⟨hstate, howner, hlist⟩ := heldOut_iff.mp hc
    refine heldOut_iff.mpr ⟨hstate, howner, ?_⟩
    rw [State.setQueue_queue_self]
    exact fun hin => hlist (htaken c hin hstate)
  have hself : (s.setQueue q y).holding q = y.openCount + y.committed.length + (s.setQueue q y).heldOutCount q := by
    rw [State.holding, State.setQueue_queue_self]
  rw [hself, State.holding]
  omega

/-- A cell after a write to one: the record written, or that cell's own. -/
theorem setCell_cell_cases (s : State) (c : Nat) (x : Cell) (d : Nat) :
    (d = c ∧ c < s.cells.length ∧ (s.setCell c x).cell d = x) ∨ (s.setCell c x).cell d = s.cell d := by
  by_cases hd : d = c
  · subst hd
    obtain hlt | hge := Nat.lt_or_ge d s.cells.length
    · exact .inl ⟨rfl, hlt, State.setCell_cell_self s hlt x⟩
    · refine .inr ?_
      rw [State.cell, State.setCell_cells, List.set_eq_of_length_le hge]
      rfl
  · exact .inr (State.setCell_cell_ne s hd x)

/-! ### What a queue's held requests wait for stays away -/

/-- From `s` to `t` queue q stays ENABLED and, but for the room (R) and the available cells (S) still to be offered, gets no room and no
available cell. -/
structure Tighter (R S : Prop) (s t : State) (q : QueueId) : Prop where
  enabled : (s.queue q).state = .rest .enabled → (t.queue q).state = .rest .enabled
  full : R ∨ (s.full q = true → t.full q = true)
  dry : S ∨ (s.oldest q = none → t.oldest q = none)

section
variable {R S : Prop} {q : QueueId}

theorem Tighter.trans (h : Tighter R S s t q) (h' : Tighter R S t u q) : Tighter R S s u q :=
  ⟨h'.enabled ∘ h.enabled, h.full.elim .inl fun hs => h'.full.imp_right (· ∘ hs),
    h.dry.elim .inl fun hs => h'.dry.imp_right (· ∘ hs)⟩

theorem Tighter.of_place (h : t.place = s.place) (q : QueueId) : Tighter R S s t q :=
  ⟨fun hs => (congrArg Prod.fst (place_queue h q)).trans hs, .inr fun hs => (full_congr h q).trans hs,
    .inr fun hs => (oldest_congr h q).trans hs⟩

/-- A write of a cell: it holds out no less than before, and becomes available in no list but those still to be offered. -/
theorem Tighter.setCell {c : Nat} {x : Cell} (hheld : R ∨ (s.heldOut q c (s.cell c) = true → s.heldOut q c x = true))
    (hqueued : c ∈ (s.queue q).committed → x.state = .queued → S ∨ (s.cell c).state = .queued) :
    Tighter R S s (s.setCell c x) q where
  enabled := id
  full := hheld.imp_right fun hc => full_mono rfl (Nat.add_le_add_left (heldOutCount_mono (List.length_set ..) fun d hd => by
    obtain ⟨rfl, -, hcell⟩ | hcell := setCell_cell_cases s c x d
    · rw [hcell]
      exact hc hd
    · rwa [hcell]) _) id
  dry := by
    by_cases hS : S
    · exact .inl hS
    refine .inr fun hdry => oldest_eq_none_iff.mpr fun d hd hstate => ?_
    have hold := oldest_eq_none_iff.mp hdry d hd
    obtain ⟨rfl, -, hcell⟩ | hcell := setCell_cell_cases s c x d
    · rw [hcell] at hstate
      exact hold ((hqueued hd hstate).resolve_left hS)
    · exact hold (hcell ▸ hstate)

/-- A write of another queue. -/
theorem Tighter.setQueue_ne {p : QueueId} (hp : q ≠ p) (y : QueueCtx) : Tighter R S s (s.setQueue p y) q := by
  have hqueue : (s.setQueue p y).queue q = s.queue q := State.setQueue_queue_ne s hp y
  have hfull : (s.setQueue p y).full q = s.full q := by
    simp only [State.full, State.holding, State.heldOutCount, State.heldOut, hqueue]
    rfl
  have holdest : (s.setQueue p y).oldest q = s.oldest q := by
    simp only [State.oldest, hqueue]
    rfl
  exact ⟨fun h => hqueue ▸ h, .inr fun h => hfull ▸ h, .inr fun h => holdest ▸ h⟩

/-- A write of the queue: its holding does not fall, and its list gains no available cell but those still to be offered. -/
theorem Tighter.setQueue_self {y : QueueCtx} (hstate : y.state = (s.queue q).state)
    (hlimit : y.config.limit = (s.queue q).config.limit)
    (hfull : R ∨ s.holding q ≤ (s.setQueue q y).holding q)
    (hlist : S ∨ ∀ c ∈ y.committed, c ∈ (s.queue q).committed) : Tighter R S s (s.setQueue q y) q where
  enabled h := by rw [State.setQueue_queue_self, hstate, h]
  full := hfull.imp_right fun hholding => full_mono (by rw [State.setQueue_queue_self, hlimit]) hholding id
  dry := hlist.imp_right fun hsub hdry => oldest_eq_none_iff.mpr fun c hc => by
    rw [State.setQueue_queue_self] at hc
    exact oldest_eq_none_iff.mp hdry c (hsub c hc)

/-- A write of the Free List. -/
theorem Tighter.setFree {l : List Nat} (h : R ∨ (s.freeList = [] → l = [])) : Tighter R S s { s with freeList := l } q :=
  ⟨id, h.imp_right fun hl => full_mono rfl (Nat.le_refl _) hl, .inr id⟩

end

/-! ### The held requests wait -/

/-- The request held in slot k waits: it stands in the arrival list, no reset drain is set, its queue is ENABLED, and but for the
room (R) and the available cells (S) still to be offered the queue has neither for it (R89, R91). -/
structure Waiting (R : Prop) (S : QueueId → Prop) (s : State) (k : SlotId) (x : Slot) : Prop where
  listed : k ∈ s.arrival
  undrained : s.drain = false
  enabled : (s.queue x.queue).state = .rest .enabled
  put : x.kind = .put → R ∨ s.full x.queue = true
  take : x.kind = .take → S x.queue ∨ s.oldest x.queue = none

/-- Every held request waits. -/
structure Waits (R : Prop) (S : QueueId → Prop) (s : State) : Prop where
  waiting : ∀ (k : SlotId) x, s.slots[k] = some x → Waiting R S s k x

/-- Nothing is still to be offered. -/
abbrev Waits.All (s : State) : Prop := Waits False (fun _ => False) s

/-- The accounting and R91 make every held request wait. -/
theorem waits_of_accounted (h : Accounted s) (hwait : HeldWait s) : Waits.All s := by
  refine ⟨fun k x hk => ?_⟩
  obtain ⟨henabled, hput, htake⟩ := hwait k x hk
  refine ⟨(h.keys.arrival_iff k).mpr ⟨x, hk⟩, Bool.eq_false_iff.mpr fun hdrain => ?_, henabled, fun hx => .inr (hput hx),
    fun hx => .inr (available_eq_zero_iff.mp (htake hx))⟩
  have hnone := (h.accesses.drained hdrain).2.1 k
  cases hnone.symm.trans hk

theorem Waits.All.heldWait (h : Waits.All s) : HeldWait s := fun k x hk =>
  have hwaiting := h.waiting k x hk
  ⟨hwaiting.enabled, fun hx => (hwaiting.put hx).resolve_left id,
    fun hx => available_eq_zero_iff.mpr ((hwaiting.take hx).resolve_left id)⟩

section
variable {R : Prop} {S : QueueId → Prop}

theorem Waits.of_empty (h : ∀ k : SlotId, s.slots[k] = none) : Waits R S s :=
  ⟨fun k _ hk => nomatch (h k).symm.trans hk⟩

theorem Waits.mono {R' : Prop} {S' : QueueId → Prop} (h : Waits R S s) (hR : R → R') (hS : ∀ q, S q → S' q) : Waits R' S' s := by
  refine ⟨fun k x hk => ?_⟩
  obtain ⟨hlisted, hundrained, henabled, hput, htake⟩ := h.waiting k x hk
  exact ⟨hlisted, hundrained, henabled, fun hx => (hput hx).imp_left hR, fun hx => (htake hx).imp_left (hS _)⟩

/-- What keeps the held requests waiting: those left were held, and their queues, ENABLED before, get nothing for them. -/
theorem Waits.tighten (h : Waits R S s) (hdrain : t.drain = s.drain)
    (hslots : ∀ (k : SlotId) x, t.slots[k] = some x → s.slots[k] = some x ∧ (k ∈ s.arrival → k ∈ t.arrival))
    (hqueue : ∀ (k : SlotId) x, t.slots[k] = some x → (s.queue x.queue).state = .rest .enabled →
      Tighter R (S x.queue) s t x.queue) : Waits R S t := by
  refine ⟨fun k x hk => ?_⟩
  obtain ⟨hold, hlisted⟩ := hslots k x hk
  obtain ⟨hin, hundrained, henabled, hput, htake⟩ := h.waiting k x hold
  obtain ⟨hstate, hfull, hdry⟩ := hqueue k x hk henabled
  exact ⟨hlisted hin, hdrain.trans hundrained, hstate henabled, fun hx => hfull.elim .inl fun hf => (hput hx).imp_right hf,
    fun hx => hdry.elim .inl fun hf => (htake hx).imp_right hf⟩

/-- The same with the slots as they were. -/
theorem Waits.tightenAll (h : Waits R S s) (hdrain : t.drain = s.drain) (hslots : t.slots = s.slots) (harrival : t.arrival = s.arrival)
    (hqueue : ∀ q, (s.queue q).state = .rest .enabled → Tighter R (S q) s t q) : Waits R S t :=
  h.tighten hdrain (fun _ _ hk => ⟨hslots ▸ hk, fun hin => harrival ▸ hin⟩) fun _ x _ => hqueue x.queue

theorem Waits.of_stock (h : Waits R S s) (hstock : t.stock = s.stock) : Waits R S t := by
  have hplace : t.place = s.place := congrArg Prod.fst hstock
  exact h.tightenAll (place_drain hplace) (congrArg (fun p => p.2.1) hstock) (congrArg (fun p => p.2.2) hstock)
    fun q _ => .of_place hplace q

theorem Waits.vacate (h : Waits R S s) (k : SlotId) : Waits R S (s.vacate k) := by
  refine h.tighten rfl (fun j x hj => ?_) fun _ x _ _ =>
    Tighter.of_place (s := s) (t := s.vacate k) rfl x.queue
  rw [State.vacate_slots, getElem_set_place] at hj
  split at hj
  · cases hj
  next hne => exact ⟨hj, fun hin => List.mem_filter.mpr ⟨hin, decide_eq_true hne⟩⟩

theorem Waits.setCell (h : Waits R S s) {c : Nat} {x : Cell}
    (hheld : R ∨ ∀ q, s.heldOut q c (s.cell c) = true → s.heldOut q c x = true)
    (hqueued : ∀ q, c ∈ (s.queue q).committed → x.state = .queued → S q ∨ (s.cell c).state = .queued) :
    Waits R S (s.setCell c x) :=
  h.tightenAll rfl rfl rfl fun q _ => .setCell (hheld.imp_right (· q)) (hqueued q)

/-- A write of a cell that leaves its state and its owner. -/
theorem Waits.updCell (h : Waits R S s) (c : Nat) {f : Cell → Cell} (hstate : (f (s.cell c)).state = (s.cell c).state)
    (howner : (f (s.cell c)).owner = (s.cell c).owner) : Waits R S (s.updCell c f) :=
  h.setCell (.inr fun q hq => by rwa [State.heldOut, hstate, howner]) fun _ _ hqueued => .inr (hstate ▸ hqueued)

/-- A write of a queue that keeps its state and its Limit. -/
theorem Waits.setQueue (h : Waits R S s) {q : QueueId} {y : QueueCtx} (hstate : y.state = (s.queue q).state)
    (hlimit : y.config.limit = (s.queue q).config.limit) (hfull : R ∨ s.holding q ≤ (s.setQueue q y).holding q)
    (hlist : S q ∨ ∀ c ∈ y.committed, c ∈ (s.queue q).committed) : Waits R S (s.setQueue q y) :=
  h.tightenAll rfl rfl rfl fun p _ => by
    by_cases hp : p = q
    · subst hp
      exact .setQueue_self hstate hlimit hfull hlist
    · exact .setQueue_ne hp y

/-- A write of a queue that holds no request. -/
theorem Waits.setQueue_idle (h : Waits R S s) {q : QueueId} (hidle : (s.queue q).state ≠ .rest .enabled) (y : QueueCtx) :
    Waits R S (s.setQueue q y) :=
  h.tightenAll rfl rfl rfl fun p hp => .setQueue_ne (fun hpq : p = q => hidle (hpq ▸ hp)) y

theorem Waits.setFree (h : Waits R S s) {l : List Nat} (hl : R ∨ (s.freeList = [] → l = [])) :
    Waits R S { s with freeList := l } :=
  h.tightenAll rfl rfl rfl fun _ _ => .setFree hl

end

end

end Sys2Proof.Machine
end

section
/-! PROOF. The grants and the services of held requests (R92, R93, R95): each of them, the loops that make them one after the other,
and what is left when a loop ends. -/

namespace Sys2Proof.Machine

section
variable {R : Prop} {S : QueueId → Prop} {s : State} {k : SlotId} {x : Slot} {q : QueueId} {c : Nat}

/-! ### Opening writes and bound takes -/

/-- A cell that becomes OPEN for one more composition of a queue takes no room from another (R11). -/
theorem Waits.openWrite (h : Waits R S s) (hhead : R ∨ ∀ c rest, s.freeList = c :: rest → (s.cell c).state ≠ .taken) (i : InitId)
    (r : Request) (a : QueueAccess) (target : QueueId) (origin : Option QueueId) (e : EntryId) :
    Waits R S (openWrite i r a target origin e s) := by
  cases hfree : s.freeList with
  | nil =>
    have hnone : allocate target origin s = none := by rw [allocate, hfree]
    rwa [Machine.openWrite, hnone]
  | cons c rest =>
    rw [openWrite_eq_handOver i r a target origin e hfree]
    have hcell : Waits R S (s.setCell c ((Cell.opening target origin).composed a.first r.body)) :=
      h.setCell (hhead.imp_right fun hc q hq => absurd (heldOut_iff.mp hq).1 (hc c rest hfree)) fun _ _ hqueued => nomatch hqueued
    have hqueue := hcell.setQueue (q := target) (y := { s.queue target with openCount := (s.queue target).openCount + 1 }) rfl rfl
      (.inr (holding_setQueue (fun _ hc _ => hc) (Nat.add_le_add_right (Nat.le_succ _) _))) (.inr fun _ hc => hc)
    have hlist : (_ : State).freeList = [] → rest = [] := fun hnil => nomatch hfree.symm.trans hnil
    exact (hqueue.setFree (l := rest) (.inr hlist)).of_stock (handOver_stock ..)

/-- A take that binds an available cell takes none from another queue, and makes no room (R54). -/
theorem Waits.bindTake (h : Waits R S s) (hcell : (s.cell c).state = .queued) (i : InitId) (r : Request) (a : QueueAccess)
    (e : EntryId) : Waits R S (bindTake i r a e c s) := by
  rw [bindTake_eq_handOver]
  have htaken : Waits R S (s.setCell c { s.cell c with state := .taken, inFlight := (s.cell c).inFlight + 1 }) :=
    h.setCell (.inr fun q hq => nomatch (heldOut_iff.mp hq).1.symm.trans hcell) fun _ _ hqueued => nomatch hqueued
  exact htaken.of_stock (handOver_stock ..)

/-! ### One grant, one service -/

theorem Waits.grant (h : Waits True S s) (k : SlotId) (x : Slot) : Waits True S (grant k x s) := by
  unfold Machine.grant
  dsimp only
  split
  · exact (h.vacate k).of_stock (respondFault_stock ..)
  · exact (h.vacate k).openWrite (.inl trivial) ..

theorem Waits.serve (h : Waits R S s) (hcell : (s.cell c).state = .queued) (k : SlotId) (x : Slot) :
    Waits R S (serve k x c s) := by
  unfold Machine.serve
  dsimp only
  split
  · exact (h.vacate k).of_stock (respondFault_stock ..)
  · exact (h.vacate k).bindTake hcell ..

theorem grant_arrival (k : SlotId) (x : Slot) (s : State) : (grant k x s).arrival = s.arrival.filter (fun j => decide (j ≠ k)) := by
  unfold grant
  dsimp only
  split
  · exact congrArg (fun p => p.2.2) (respondFault_stock ..)
  · rw [openWrite_eq]
    rfl

theorem grant_drain (k : SlotId) (x : Slot) (s : State) : (grant k x s).drain = s.drain := by
  rw [grant_eq]
  rfl

theorem serve_arrival (k : SlotId) (x : Slot) (c : Nat) (s : State) :
    (serve k x c s).arrival = s.arrival.filter (fun j => decide (j ≠ k)) := by
  unfold serve
  dsimp only
  split
  · exact congrArg (fun p => p.2.2) (respondFault_stock ..)
  · rw [bindTake_eq_handOver, handOver_eq]
    rfl

theorem filter_ne_length_lt {l : List SlotId} (h : k ∈ l) : (l.filter (fun j => decide (j ≠ k))).length < l.length :=
  List.length_filter_lt_length_iff_exists.mpr ⟨k, h, by simp⟩

/-! ### The candidates -/

/-- The candidate for a grant is the first held put in arrival order whose queue is not full (R92). -/
theorem grantee_eq_some_iff : grantee s = some (k, x) ↔
    ∃ before after, s.arrival = before ++ k :: after ∧ s.slots[k] = some x ∧ x.kind = .put ∧ s.full x.queue = false ∧
      ∀ j ∈ before, ∀ y, s.slots[j] = some y → y.kind = .put → s.full y.queue = true := by
  rw [grantee, findHeld_eq_some_iff]
  simp [and_assoc]

theorem grantee_eq_none_iff : grantee s = none ↔
    ∀ k ∈ s.arrival, ∀ x, s.slots[k] = some x → x.kind = .put → s.full x.queue = true := by
  rw [grantee, findHeld_eq_none_iff]
  simp

/-- The queue's earliest held take (R95). -/
def State.heldTake (s : State) (q : QueueId) : Option (SlotId × Slot) :=
  s.findHeld (fun x => decide (x.kind = .take) && decide (x.queue = q))

theorem heldTake_eq_some_iff : s.heldTake q = some (k, x) ↔
    ∃ before after, s.arrival = before ++ k :: after ∧ s.slots[k] = some x ∧ x.kind = .take ∧ x.queue = q ∧
      ∀ j ∈ before, ∀ y, s.slots[j] = some y → y.kind = .take → y.queue ≠ q := by
  rw [State.heldTake, findHeld_eq_some_iff]
  simp [and_assoc]

theorem heldTake_eq_none_iff : s.heldTake q = none ↔
    ∀ k ∈ s.arrival, ∀ x, s.slots[k] = some x → x.kind = .take → x.queue ≠ q := by
  rw [State.heldTake, findHeld_eq_none_iff]
  simp

theorem queued_of_oldest (h : s.oldest q = some c) : (s.cell c).state = .queued := by
  obtain ⟨-, -, -, hqueued, -⟩ := (oldest_eq_some_iff s q c).mp h
  exact hqueued

/-- A queue with no held take, or without an available cell, has no service to make. -/
def NoService (s : State) (q : QueueId) : Prop := s.heldTake q = none ∨ s.oldest q = none

/-! ### The loops -/

theorem grantLoop_succ (n : Nat) (s : State) : grantLoop (n + 1) s =
    match grantee s with
    | none => s
    | some (k, x) => grantLoop n (grant k x s) := rfl

theorem grantLoop_none (h : grantee s = none) (n : Nat) : grantLoop n s = s := by
  cases n with
  | zero => rfl
  | succ n => rw [grantLoop_succ, h]

theorem grantLoop_some (h : grantee s = some (k, x)) (n : Nat) : grantLoop (n + 1) s = grantLoop n (grant k x s) := by
  rw [grantLoop_succ, h]

theorem grant_length_lt (h : grantee s = some (k, x)) : (grant k x s).arrival.length < s.arrival.length := by
  obtain ⟨hlisted, -⟩ := findHeld_eq_some h
  rw [grant_arrival]
  exact filter_ne_length_lt hlisted

theorem grantee_of_no_arrival (h : s.arrival.length ≤ 0) : grantee s = none :=
  grantee_eq_none_iff.mpr fun k hk => by simp [List.eq_nil_of_length_eq_zero (Nat.le_zero.mp h)] at hk

/-- As many grants as the arrival list is long are enough (R92). -/
theorem grantLoop_fuel (n m : Nat) (hn : s.arrival.length ≤ n) (hm : s.arrival.length ≤ m) : grantLoop n s = grantLoop m s := by
  induction n generalizing s m with
  | zero =>
    have hnone := grantee_of_no_arrival hn
    rw [grantLoop_none hnone, grantLoop_none hnone]
  | succ n ih =>
    cases hgrantee : grantee s with
    | none => rw [grantLoop_none hgrantee, grantLoop_none hgrantee]
    | some kx =>
      obtain ⟨k, x⟩ := kx
      have hlt := grant_length_lt hgrantee
      obtain ⟨m, rfl⟩ : ∃ l, m = l + 1 := ⟨m - 1, by omega⟩
      rw [grantLoop_some hgrantee, grantLoop_some hgrantee]
      exact ih m (by omega) (by omega)

/-- What every grant keeps, the loop keeps. -/
theorem grantLoop_keeps {P : State → Prop} (hP : ∀ s k x, grantee s = some (k, x) → P s → P (grant k x s)) (n : Nat) (hs : P s) :
    P (grantLoop n s) := by
  induction n generalizing s with
  | zero => exact hs
  | succ n ih =>
    cases hgrantee : grantee s with
    | none => rwa [grantLoop_none hgrantee]
    | some kx =>
      rw [grantLoop_some hgrantee]
      exact ih (hP s kx.1 kx.2 hgrantee hs)

theorem grantLoop_end (n : Nat) (hn : s.arrival.length ≤ n) : grantee (grantLoop n s) = none := by
  induction n generalizing s with
  | zero => exact grantee_of_no_arrival hn
  | succ n ih =>
    cases hgrantee : grantee s with
    | none => rwa [grantLoop_none hgrantee]
    | some kx =>
      rw [grantLoop_some hgrantee]
      have hlt := grant_length_lt hgrantee
      exact ih (by omega)

theorem serveLoop_succ (q : QueueId) (n : Nat) (s : State) : serveLoop q (n + 1) s =
    match s.heldTake q, s.oldest q with
    | some (k, x), some c => serveLoop q n (serve k x c s)
    | _, _ => s := rfl

theorem serveLoop_none (h : NoService s q) (n : Nat) : serveLoop q n s = s := by
  cases n with
  | zero => rfl
  | succ n =>
    rw [serveLoop_succ]
    obtain h | h := h
    · rw [h]
    · cases s.heldTake q <;> rw [h]

theorem serveLoop_some (hheld : s.heldTake q = some (k, x)) (hcell : s.oldest q = some c) (n : Nat) :
    serveLoop q (n + 1) s = serveLoop q n (serve k x c s) := by
  rw [serveLoop_succ, hheld, hcell]

theorem noService_or (s : State) (q : QueueId) :
    NoService s q ∨ ∃ k x c, s.heldTake q = some (k, x) ∧ s.oldest q = some c := by
  cases hheld : s.heldTake q with
  | none => exact .inl (.inl hheld)
  | some kx =>
    cases hcell : s.oldest q with
    | none => exact .inl (.inr hcell)
    | some c => exact .inr ⟨kx.1, kx.2, c, rfl, rfl⟩

theorem serve_length_lt (h : s.heldTake q = some (k, x)) (c : Nat) : (serve k x c s).arrival.length < s.arrival.length := by
  obtain ⟨hlisted, -⟩ := findHeld_eq_some h
  rw [serve_arrival]
  exact filter_ne_length_lt hlisted

theorem noService_of_no_arrival (h : s.arrival.length ≤ 0) (q : QueueId) : NoService s q :=
  .inl (heldTake_eq_none_iff.mpr fun k hk => by simp [List.eq_nil_of_length_eq_zero (Nat.le_zero.mp h)] at hk)

/-- As many services as the arrival list is long are enough (R95). -/
theorem serveLoop_fuel (q : QueueId) (n m : Nat) (hn : s.arrival.length ≤ n) (hm : s.arrival.length ≤ m) :
    serveLoop q n s = serveLoop q m s := by
  induction n generalizing s m with
  | zero =>
    have hnone := noService_of_no_arrival hn q
    rw [serveLoop_none hnone, serveLoop_none hnone]
  | succ n ih =>
    obtain hnone | ⟨k, x, c, hheld, hcell⟩ := noService_or s q
    · rw [serveLoop_none hnone, serveLoop_none hnone]
    · have hlt := serve_length_lt hheld c
      obtain ⟨m, rfl⟩ : ∃ l, m = l + 1 := ⟨m - 1, by omega⟩
      rw [serveLoop_some hheld hcell, serveLoop_some hheld hcell]
      exact ih m (by omega) (by omega)

/-- What every service keeps, the loop keeps. -/
theorem serveLoop_keeps {P : State → Prop} {q : QueueId}
    (hP : ∀ s k x c, s.heldTake q = some (k, x) → s.oldest q = some c → P s → P (serve k x c s)) (n : Nat) (hs : P s) :
    P (serveLoop q n s) := by
  induction n generalizing s with
  | zero => exact hs
  | succ n ih =>
    obtain hnone | ⟨k, x, c, hheld, hcell⟩ := noService_or s q
    · rwa [serveLoop_none hnone]
    · rw [serveLoop_some hheld hcell]
      exact ih (hP s k x c hheld hcell hs)

theorem serveLoop_end (q : QueueId) (n : Nat) (hn : s.arrival.length ≤ n) : NoService (serveLoop q n s) q := by
  induction n generalizing s with
  | zero => exact noService_of_no_arrival hn q
  | succ n ih =>
    obtain hnone | ⟨k, x, c, hheld, hcell⟩ := noService_or s q
    · rwa [serveLoop_none hnone]
    · rw [serveLoop_some hheld hcell]
      have hlt := serve_length_lt hheld c
      exact ih (by omega)

/-! ### The offers -/

theorem offerRoom_undrained (h : s.drain = false) : offerRoom s = grantLoop s.arrival.length s :=
  if_neg (ne_true_of_eq_false h)

theorem offerRoom_none (h : s.drain = true ∨ grantee s = none) : offerRoom s = s := by
  unfold offerRoom
  split
  · rfl
  next hdrain => exact grantLoop_none (h.resolve_left hdrain) _

/-- An offer of room begins with the grant of the first candidate. -/
theorem offerRoom_some (hdrain : s.drain = false) (h : grantee s = some (k, x)) : offerRoom s = offerRoom (grant k x s) := by
  have hlt := grant_length_lt h
  obtain ⟨n, hn⟩ : ∃ n, s.arrival.length = n + 1 := ⟨s.arrival.length - 1, by omega⟩
  rw [offerRoom_undrained hdrain, offerRoom_undrained ((grant_drain k x s).trans hdrain), hn, grantLoop_some h]
  exact grantLoop_fuel _ _ (by omega) (Nat.le_refl _)

theorem offerRoom_end (hdrain : s.drain = false) : grantee (offerRoom s) = none := by
  rw [offerRoom_undrained hdrain]
  exact grantLoop_end _ (Nat.le_refl _)

/-- An offer of availability begins with the service of the queue's earliest held take. -/
theorem serveTakes_some (hheld : s.heldTake q = some (k, x)) (hcell : s.oldest q = some c) :
    serveTakes q s = serveTakes q (serve k x c s) := by
  have hlt := serve_length_lt hheld c
  obtain ⟨n, hn⟩ : ∃ n, s.arrival.length = n + 1 := ⟨s.arrival.length - 1, by omega⟩
  rw [serveTakes, serveTakes, hn, serveLoop_some hheld hcell]
  exact serveLoop_fuel q _ _ (by omega) (Nat.le_refl _)

theorem serveTakes_end (q : QueueId) (s : State) : NoService (serveTakes q s) q := serveLoop_end q _ (Nat.le_refl _)

/-- After an offer of room every held put waits on a full queue (R92). -/
theorem Waits.offerRoom (h : Waits True S s) : Waits False S (offerRoom s) := by
  refine ⟨fun k x hk => ?_⟩
  have hafter : Waits True S (Machine.offerRoom s) := by
    unfold Machine.offerRoom
    split
    · exact h
    · exact grantLoop_keeps (fun _ k x _ hs => hs.grant k x) _ h
  obtain ⟨hlisted, hundrained, henabled, -, htake⟩ := hafter.waiting k x hk
  refine ⟨hlisted, hundrained, henabled, fun hput => .inr ?_, htake⟩
  have hdrain : s.drain = false := by
    refine Bool.eq_false_iff.mpr fun hdrain => ?_
    rw [offerRoom_none (.inl hdrain), hdrain] at hundrained
    exact nomatch hundrained
  exact grantee_eq_none_iff.mp (offerRoom_end hdrain) k hlisted x hk hput

/-- After an offer of availability every held take of the queue waits beside no available cell (R95). -/
theorem Waits.serveTakes (h : Waits R (fun p => p = q ∨ S p) s) : Waits R S (serveTakes q s) := by
  refine ⟨fun k x hk => ?_⟩
  have hafter : Waits R (fun p => p = q ∨ S p) (Machine.serveTakes q s) :=
    serveLoop_keeps (fun _ k x _ _ hcell hs => hs.serve (queued_of_oldest hcell) k x) _ h
  obtain ⟨hlisted, hundrained, henabled, hput, htake⟩ := hafter.waiting k x hk
  refine ⟨hlisted, hundrained, henabled, hput, fun hx => (htake hx).elim (fun hS => hS.elim (fun hq => ?_) .inl) .inr⟩
  subst hq
  exact (serveTakes_end x.queue s).elim (fun hnone => absurd rfl (heldTake_eq_none_iff.mp hnone k hlisted x hk hx)) .inr

end

end Sys2Proof.Machine
end

section
/-! PROOF. What the operations of the Queue Engine leave of what the held requests wait for (R91): flushes, window commands,
acknowledgements and control words. -/

namespace Sys2Proof.Machine

section
variable {R : Prop} {S : QueueId → Prop} {s : State} {k : SlotId} {x : Slot} {q : QueueId} {c : Nat} {i : InitId} {r : Request}
  {a : QueueAccess} {e : EntryId}

/-! ### Cells that become free, flushes -/

theorem Waits.appendFree (h : Waits R S s) (hR : R) (c : Nat) : Waits R S (appendFree c s) :=
  (h.setCell (c := c) (x := Cell.freed) (.inl hR) fun _ _ hqueued => nomatch hqueued).setFree (.inl hR)

theorem Waits.decOpen (h : Waits R S s) (hR : R) (q : QueueId) : Waits R S (decOpen q s) :=
  h.setQueue (y := { s.queue q with openCount := (s.queue q).openCount - 1 }) rfl rfl (.inl hR) (.inr fun _ hc => hc)

theorem appendFree_foldl_queue (cells : List Nat) (s : State) (q : QueueId) :
    (cells.foldl (fun s c => Machine.appendFree c s) s).queue q = s.queue q := by
  rw [appendFree_foldl_eq]
  rfl

/-- The completion of a flush offers the room that it makes; its queue holds no request while it is FLUSHING (R108, R111). -/
theorem Waits.completeFlush (h : Waits False S s) (hflushing : (s.queue q).isFlushing = true) :
    Waits False S (completeFlush q s) := by
  have hidle (u : State) (hu : u.queue q = s.queue q) : (u.queue q).state ≠ .rest .enabled := fun henabled => by
    rw [hu] at henabled
    rw [QueueCtx.isFlushing, henabled] at hflushing
    exact nomatch hflushing
  have hfold (cells : List Nat) (u : State) (hu : Waits True S u) :
      Waits True S (cells.foldl (fun s c => Machine.appendFree c s) u) := by
    induction cells generalizing u with
    | nil => exact hu
    | cons c cells ih => exact ih _ (hu.appendFree trivial c)
  have hqueue := appendFree_foldl_queue ((s.queue q).committed ++ s.openCells q) s q
  have hfreed := hfold ((s.queue q).committed ++ s.openCells q) s (h.mono (fun _ => trivial) fun _ hS => hS)
  unfold Machine.completeFlush
  dsimp only
  generalize ((s.queue q).committed ++ s.openCells q).foldl (fun s c => Machine.appendFree c s) s = u at hqueue hfreed
  have hvoided : Waits True S { u with putTable := mapTable (Option.map (voidPut q)) u.putTable,
                                       takeTable := mapTable (Option.map (voidTake q)) u.takeTable } := hfreed.of_stock rfl
  exact ((hvoided.setQueue_idle (hidle _ hqueue) _).offerRoom).of_stock rfl

theorem Waits.tryFlush (h : Waits False S s) (q : QueueId) : Waits False S (tryFlush q s) := by
  unfold Machine.tryFlush
  split
  next hdone => exact h.completeFlush (isFlushing_of_flushDone hdone)
  · exact h

theorem Waits.tryFlushOwner (h : Waits False S s) (owner : Option QueueId) : Waits False S (tryFlushOwner owner s) := by
  unfold Machine.tryFlushOwner
  split
  · exact h.tryFlush _
  · exact h

/-! ### PUT_WINDOW_WRITE -/

theorem Waits.composeWrite (h : Waits R S s) (i : InitId) (r : Request) (a : QueueAccess) (target : QueueId) (c : Nat) :
    Waits R S (composeWrite i r a target c s) := by
  rw [composeWrite_eq_updCell]
  exact (h.updCell c rfl rfl).of_stock (handOver_stock ..)

/-- A displacement keeps the queue's holding: one cell fewer is committed and one more OPEN (R75). -/
theorem Waits.displaceWrite (h : Waits R S s) (hcell : s.eligible a.queue = some c) (i : InitId) (r : Request) (e : EntryId) :
    Waits R S (displaceWrite i r a e c s) := by
  obtain ⟨before, after, hlist, ⟨hqueued, -, -⟩, -⟩ := (s.eligible_eq_some_iff a.queue c).mp hcell
  have hmem : c ∈ (s.queue a.queue).committed := hlist ▸ List.mem_append_right before List.mem_cons_self
  have hopened : Waits R S (s.setCell c (Cell.opening a.queue none)) :=
    h.setCell (.inr fun q hq => nomatch (heldOut_iff.mp hq).1.symm.trans hqueued) fun _ _ hx => nomatch hx
  have hcount : (s.queue a.queue).openCount + (s.queue a.queue).committed.length ≤
      (s.queue a.queue).openCount + 1 + ((s.queue a.queue).committed.erase c).length := by
    rw [List.length_erase_of_mem hmem]
    omega
  have hunlisted := hopened.setQueue (q := a.queue)
    (y := { s.queue a.queue with committed := (s.queue a.queue).committed.erase c,
                                 openCount := (s.queue a.queue).openCount + 1 }) rfl rfl
    (.inr (holding_setQueue (fun _ hd _ => List.mem_of_mem_erase hd) hcount)) (.inr fun _ hd => List.mem_of_mem_erase hd)
  unfold Machine.displaceWrite
  exact ((hunlisted.of_stock (setPut_stock ..)).of_stock (raiseLost_stock ..)).composeWrite ..

/-- A request that is parked waits for what its queue lacks (R91). -/
theorem Waits.park (h : Waits R S s) {kind : HeldKind} (hdrain : s.drain = false)
    (henabled : (s.queue a.queue).state = .rest .enabled) (hput : kind = .put → s.full a.queue = true)
    (htake : kind = .take → s.oldest a.queue = none) (i : InitId) (r : Request) (wait : BitVec 16) :
    Waits R S (park kind i r a wait s) := by
  cases hslot : s.freeSlot with
  | none => rwa [Machine.park, hslot]
  | some k =>
    rw [park_some kind i r a wait hslot]
    refine ⟨fun j x hj => ?_⟩
    change (s.slots.set k _)[j] = _ at hj
    rw [getElem_set_place] at hj
    split at hj
    next hjk =>
      subst hjk
      cases hj
      exact ⟨List.mem_append_right _ List.mem_cons_self, hdrain, henabled, fun hk => .inr (hput hk), fun hk => .inr (htake hk)⟩
    · obtain ⟨hlisted, hundrained, hstate, hfull, hdry⟩ := h.waiting j x hj
      exact ⟨List.mem_append_left _ hlisted, hundrained, hstate, hfull, hdry⟩

theorem Waits.fullWrite (h : Waits False S s) (hfree : ∀ c rest, s.freeList = c :: rest → (s.cell c).state ≠ .taken)
    (hdrain : s.drain = false) (henabled : (s.queue a.queue).state = .rest .enabled) (hfull : s.full a.queue = true) (i : InitId)
    (r : Request) (e : EntryId) : Waits False S (fullWrite i r a e s) := by
  have hdrop : Waits False S (Machine.dropWrite i r a e s) := h.of_stock (dropWrite_stock ..)
  unfold Machine.fullWrite
  split
  · exact hdrop
  · split
    next c hcell => exact (h.of_stock (take_stock s i)).displaceWrite hcell ..
    · exact hdrop
  · split
    next p _ =>
      have hraised : Waits False S ((s.take i).raiseDiverted a.queue) :=
        (h.of_stock (take_stock s i)).of_stock (raiseDiverted_stock ..)
      exact hraised.openWrite (.inr hfree) ..
    · exact hdrop
  · split
    · exact hdrop
    · exact h.park hdrain henabled (fun _ => hfull) (fun hk => absurd hk (by decide)) ..

theorem Waits.openingWrite (h : Waits False S s) (hfree : ∀ c rest, s.freeList = c :: rest → (s.cell c).state ≠ .taken)
    (hdrain : s.drain = false) (i : InitId) (r : Request) (a : QueueAccess) : Waits False S (openingWrite i r a s) := by
  unfold Machine.openingWrite
  split
  · exact h.of_stock (respondFault_stock ..)
  · exact h.of_stock (respond_stock ..)
  next henabled =>
    split
    · exact h.of_stock (respondFault_stock ..)
    · split
      next hfull => exact h.fullWrite hfree hdrain henabled hfull ..
      · exact (h.of_stock (take_stock s i)).openWrite (.inr hfree) ..

theorem Waits.boundWrite (h : Waits R S s) (i : InitId) (r : Request) (a : QueueAccess) (e : EntryId) (b : PutBinding) :
    Waits R S (boundWrite i r a e b s) := by
  have hanswer (code : RespCode) (t : State) (ht : t.stock = s.stock) : Waits R S (respond i code [] t) :=
    (h.of_stock ht).of_stock (respond_stock ..)
  unfold Machine.boundWrite
  split
  · split
    · exact hanswer _ s rfl
    · exact (h.of_stock (take_stock s i)).composeWrite ..
  · split
    · exact hanswer _ s rfl
    · split
      · exact hanswer _ (s.setPut e none) rfl
      · exact hanswer _ s rfl
  · split
    · exact hanswer _ (s.setPut e none) rfl
    · exact hanswer _ s rfl

theorem Waits.putWrite (h : Waits False S s) (hfree : ∀ c rest, s.freeList = c :: rest → (s.cell c).state ≠ .taken)
    (hdrain : s.drain = false) (i : InitId) (r : Request) (a : QueueAccess) : Waits False S (putWrite i r a s) := by
  unfold Machine.putWrite
  split
  · exact h.of_stock (respondFault_stock ..)
  · split
    · exact h.openingWrite hfree hdrain ..
    · exact h.boundWrite ..

/-! ### The reads of the windows -/

theorem Waits.putWindowRead (h : Waits R S s) (i : InitId) (r : Request) (a : QueueAccess) :
    Waits R S (putWindowRead i r a s) := by
  unfold Machine.putWindowRead
  split
  · exact h.of_stock (respondFault_stock ..)
  · split
    · exact h.of_stock (respond_stock ..)
    · split
      · split
        · exact h.of_stock (respond_stock ..)
        next c _ _ => exact ((h.of_stock (take_stock s i)).updCell c rfl rfl).of_stock (handOver_stock ..)
      · exact h.of_stock (respond_stock ..)
      · exact h.of_stock (respond_stock ..)

theorem Waits.firstTake (h : Waits R S s) (hdrain : s.drain = false) (i : InitId) (r : Request) (a : QueueAccess) :
    Waits R S (firstTake i r a s) := by
  unfold Machine.firstTake
  split
  · exact h.of_stock (respondFault_stock ..)
  · exact h.of_stock (respond_stock ..)
  next henabled =>
    split
    · exact h.of_stock (respondFault_stock ..)
    · split
      next c hcell => exact (h.of_stock (take_stock s i)).bindTake (queued_of_oldest hcell) ..
      next hnone =>
        split
        · exact (h.of_stock (raiseUnderrun_stock ..)).of_stock (respond_stock ..)
        · exact h.park hdrain henabled (fun hk => absurd hk (by decide)) (fun _ => hnone) ..

theorem Waits.boundTake (h : Waits R S s) (i : InitId) (r : Request) (a : QueueAccess) (e : EntryId) (b : TakeBinding) :
    Waits R S (boundTake i r a e b s) := by
  unfold Machine.boundTake
  split
  next c _ =>
    split
    · exact h.of_stock (respond_stock ..)
    · exact ((h.of_stock (take_stock s i)).updCell c rfl rfl).of_stock (handOver_stock ..)
  · split
    · exact (h.of_stock (setTake_stock s e none)).of_stock (respond_stock ..)
    · exact h.of_stock (respond_stock ..)

theorem Waits.takeWindowRead (h : Waits R S s) (hdrain : s.drain = false) (i : InitId) (r : Request) (a : QueueAccess) :
    Waits R S (takeWindowRead i r a s) := by
  unfold Machine.takeWindowRead
  split
  · exact h.of_stock (respondFault_stock ..)
  · split
    · exact h.firstTake hdrain ..
    · exact h.boundTake ..

theorem Waits.peekWindowRead (h : Waits R S s) (i : InitId) (r : Request) (a : QueueAccess) :
    Waits R S (peekWindowRead i r a s) := by
  unfold Machine.peekWindowRead
  split
  · exact h.of_stock (respondFault_stock ..)
  · split
    · exact h.of_stock (respondFault_stock ..)
    · exact h.of_stock (respond_stock ..)
    · split
      next c _ => exact ((h.of_stock (take_stock s i)).updCell c rfl rfl).of_stock (handOver_stock ..)
      · exact h.of_stock (respond_stock ..)

end

end Sys2Proof.Machine
end

section
/-! PROOF. The acknowledgements of cell accesses and the control words leave the held requests waiting (R38, R42, R61, R63, R68, R91). -/

namespace Sys2Proof.Machine

section
variable {R : Prop} {S : QueueId → Prop} {s t : State} {k : SlotId} {q : QueueId} {c : Nat} {x : CellAccess} {i : InitId} {r : Request}
  {a : QueueAccess} {e : EntryId} {beats : List MemBeat}

theorem stock_cell (h : t.stock = s.stock) (c : Nat) : t.cell c = s.cell c := by
  have hcells : t.cells = s.cells := congrArg (fun p => p.1.2.2.1) h
  rw [State.cell, hcells]
  rfl

theorem stock_committed (h : t.stock = s.stock) (q : QueueId) : (t.queue q).committed = (s.queue q).committed :=
  congrArg (fun y => y.2.2.2) (place_queue (congrArg Prod.fst h) q)

/-! ### What an acknowledgement finds -/

/-- The acknowledgement of a cell access finds its request being performed (R165). -/
theorem cellAck_eq_some (h : s.cellAck beats = some (x, r, a)) :
    ∃ m ∈ s.requests, m.fate = .live ∧ m.owner = .cell x ∧ s.channels[x.init].head? = some { req := r, decoded := .queue a } := by
  unfold State.cellAck at h
  split at h
  next hlive =>
    obtain ⟨rest, hout, hfate, -⟩ := outstanding_of_ackLive hlive
    split at h
    next hperforming =>
      cases h
      exact ⟨_, List.mem_append_right _ (hout ▸ List.mem_cons_self), hfate, rfl, head_of_performing hperforming⟩
    · cases h
  · cases h

theorem Accounted.cellAck_serves (h : Accounted s) (hack : s.cellAck beats = some (x, r, a)) :
    ∃ m, m.owner = .cell x ∧ Serves s m { req := r, decoded := .queue a } := by
  obtain ⟨m, hm, hlive, howner, hchannel⟩ := cellAck_eq_some hack
  obtain ⟨e, he, hserve⟩ := h.requests.serves m hm hlive
  have hinit : m.owner.init = x.init := by rw [howner]; rfl
  obtain rfl : e = { req := r, decoded := .queue a } :=
    Option.some.inj (he.symm.trans ((congrArg (fun i : InitId => s.channels[i].head?) hinit).trans hchannel))
  exact ⟨m, howner, hserve⟩

/-- A cell that is being composed is OPEN, and in no committed list. -/
theorem Accounted.composed_cell (h : Accounted s) (hack : s.cellAck beats = some (x, r, a)) {closing : Bool}
    (huse : x.use = .compose closing) : (s.cell x.cell).state = .opened ∧ ∀ p, x.cell ∉ (s.queue p).committed := by
  obtain ⟨m, howner, -, hserve⟩ := h.cellAck_serves hack
  obtain ⟨init, cell, queue, use, pattern⟩ := x
  obtain rfl := huse
  rw [howner] at hserve
  obtain ⟨-, -, f, hf⟩ := hserve
  have hopened : (s.cell cell).state = .opened := (h.cells.open_iff cell).mpr ⟨f, _, hf, rfl⟩
  refine ⟨hopened, fun p hp => ?_⟩
  obtain ⟨-, hqueued | htaken⟩ := h.cells.listed p cell hp
  · exact nomatch hqueued.symm.trans hopened
  · exact nomatch htaken.symm.trans hopened

/-- A cell that is being taken is TAKEN, owned by its queue and in its committed list once. -/
theorem Accounted.taken_listed (h : Accounted s) {b : TakeBinding} (hb : s.takeTable[e] = some b) (hactive : b.state = .active c) :
    (s.cell c).state = .taken ∧ (s.cell c).owner = some b.queue ∧ c ∈ (s.queue b.queue).committed := by
  obtain ⟨htaken, hlisted⟩ := h.cells.taken_cell e b c hb hactive
  exact ⟨htaken, (h.cells.listed b.queue c hlisted).1, hlisted⟩

theorem Accounted.read_cell (h : Accounted s) (hack : s.cellAck beats = some (x, r, a)) {closing : Bool}
    (huse : x.use = .take closing) :
    (s.cell x.cell).state = .taken ∧ (s.cell x.cell).owner = some x.queue ∧ x.cell ∈ (s.queue x.queue).committed := by
  obtain ⟨m, howner, -, hserve⟩ := h.cellAck_serves hack
  obtain ⟨init, cell, queue, use, pattern⟩ := x
  obtain rfl := huse
  rw [howner] at hserve
  obtain ⟨-, -, -, f, hf⟩ := hserve
  exact h.taken_listed hf rfl

/-! ### The acknowledgements that leave a cell where it is -/

theorem Waits.answerAccess (h : Waits R S s) (x : CellAccess) (r : Request) (a : QueueAccess) (beats : List MemBeat) :
    Waits R S (answerAccess x r a beats s) := by
  unfold Machine.answerAccess
  split
  · exact h.of_stock (respondFault_stock ..)
  · exact h.of_stock (respond_stock ..)

theorem Waits.decFlight (h : Waits R S s) (c : Nat) : Waits R S (decFlight c s) := h.updCell c rfl rfl

theorem Waits.composeAck (h : Waits False S s) (x : CellAccess) (r : Request) (a : QueueAccess) (beats : List MemBeat) :
    Waits False S (composeAck x r a beats s) := by
  have hcount := (h.of_stock (retireHead_stock s)).decFlight x.cell
  refine Waits.tryFlushOwner (Waits.answerAccess ?_ ..) _
  split
  · exact hcount.updCell x.cell rfl rfl
  · exact hcount

theorem Waits.readAck (h : Waits False S s) (x : CellAccess) (r : Request) (a : QueueAccess) (beats : List MemBeat) :
    Waits False S (readAck x r a beats s) :=
  (((h.of_stock (retireHead_stock s)).decFlight x.cell).answerAccess ..).tryFlushOwner _

/-! ### The commit and the discard -/

/-- A commit keeps the queue's holding: one cell fewer is OPEN and one more is committed. The cell is still to be offered to the
queue's held takes (R38, R39). -/
theorem Waits.commitCell (h : Waits R S s) (hopened : (s.cell c).state = .opened) (hunlisted : ∀ p, c ∉ (s.queue p).committed)
    (q : QueueId) : Waits R (fun p => p = q ∨ S p) (commitCell q c s) := by
  have hoffer : Waits R (fun p => p = q ∨ S p) s := h.mono id fun _ => .inr
  have hqueued := hoffer.setCell (c := c) (x := (s.cell c).committing (s.queue q).nextSeq (s.queue q).config.cellLen)
    (.inr fun p hp => nomatch (heldOut_iff.mp hp).1.symm.trans hopened) fun p hp => absurd hp (hunlisted p)
  have htaken : ((s.setCell c ((s.cell c).committing (s.queue q).nextSeq (s.queue q).config.cellLen)).cell c).state ≠ .taken := by
    obtain ⟨-, -, hcell⟩ | hcell := setCell_cell_cases s c ((s.cell c).committing (s.queue q).nextSeq (s.queue q).config.cellLen) c
    · rw [hcell]
      exact nofun
    · rw [hcell, hopened]
      exact nofun
  have hcount : (s.queue q).openCount + (s.queue q).committed.length ≤
      ((s.queue q).committing c).openCount + ((s.queue q).committing c).committed.length := by
    have hlength : ((s.queue q).committed ++ [c]).length = (s.queue q).committed.length + 1 := List.length_append
    change _ ≤ (s.queue q).openCount - 1 + ((s.queue q).committed ++ [c]).length
    omega
  have hlisted := hqueued.setQueue (q := q) (y := (s.queue q).committing c) rfl rfl
    (.inr (holding_setQueue (fun d hd hstate => (List.mem_append.mp hd).elim id fun hdc =>
      absurd (List.mem_singleton.mp hdc ▸ hstate) htaken) hcount)) (.inl (.inl rfl))
  rw [commitCell_eq]
  exact hlisted.of_stock rfl

theorem decFlight_cell_state (s : State) (c d : Nat) : ((decFlight c s).cell d).state = (s.cell d).state := by
  by_cases hd : d = c
  · subst hd
    exact State.cell_updCell_of s d _ Cell.state fun _ => rfl
  · exact congrArg Cell.state (State.setCell_cell_ne s hd _)

theorem decFlight_cell_owner (s : State) (c d : Nat) : ((decFlight c s).cell d).owner = (s.cell d).owner := by
  by_cases hd : d = c
  · subst hd
    exact State.cell_updCell_of s d _ Cell.owner fun _ => rfl
  · exact congrArg Cell.owner (State.setCell_cell_ne s hd _)

theorem Waits.closeAck (h : Waits False S s) (hopened : (s.cell x.cell).state = .opened)
    (hunlisted : ∀ p, x.cell ∉ (s.queue p).committed) (r : Request) (a : QueueAccess) (beats : List MemBeat) :
    Waits False S (closeAck x r a beats s) := by
  have hstock : (freePutBinding x.init a.queue (Machine.decFlight x.cell (retireHead s))).stock =
      (Machine.decFlight x.cell (retireHead s)).stock := freePutBinding_stock ..
  have hfreed : Waits False S (freePutBinding x.init a.queue (Machine.decFlight x.cell (retireHead s))) :=
    ((h.of_stock (retireHead_stock s)).decFlight x.cell).of_stock hstock
  refine Waits.tryFlushOwner ?_ _
  split
  · have hroom := (hfreed.mono (R' := True) (fun _ => trivial) fun _ hS => hS).appendFree trivial x.cell
    exact ((hroom.decOpen trivial x.queue).of_stock (respondFault_stock ..)).offerRoom
  · refine Waits.serveTakes ((hfreed.commitCell ?_ (fun p hp => ?_) x.queue).of_stock (respond_stock ..))
    · rw [stock_cell hstock, decFlight_cell_state, stock_cell (retireHead_stock s)]
      exact hopened
    · rw [stock_committed hstock] at hp
      change x.cell ∈ ((retireHead s).queue p).committed at hp
      rw [stock_committed (retireHead_stock s)] at hp
      exact hunlisted p hp

/-! ### The retirement -/

theorem countP_lt_countP {α : Type} {p p' : α → Bool} {l : List α} (h : ∀ b, p b = true → p' b = true) {b : α} (hb : b ∈ l)
    (hp : p b = false) (hp' : p' b = true) : l.countP p < l.countP p' := by
  rw [List.countP_eq_length_filter, List.countP_eq_length_filter]
  have hsub : (l.filter p).Sublist (l.filter p') := List.monotone_filter_right l h
  refine Nat.lt_of_le_of_ne hsub.length_le fun hlength => ?_
  have hin : b ∈ l.filter p := hsub.eq_of_length hlength ▸ List.mem_filter.mpr ⟨hb, hp'⟩
  exact nomatch hp.symm.trans (List.mem_filter.mp hin).2

/-- A TAKEN cell that leaves its queue's list stays in the queue's holding, held out by a pin (R9, R19, R61). -/
theorem holding_unlist (htaken : (s.cell c).state = .taken) (howner : (s.cell c).owner = some q)
    (hlisted : c ∈ (s.queue q).committed) (hnodup : (s.queue q).committed.Nodup) {y : QueueCtx}
    (hcommitted : y.committed = (s.queue q).committed.erase c) (hopen : y.openCount = (s.queue q).openCount) :
    s.holding q ≤ (s.setQueue q y).holding q := by
  have hself := State.setQueue_queue_self (s := s) q y
  have hheld : s.heldOutCount q < (s.setQueue q y).heldOutCount q := by
    rw [heldOutCount_eq, heldOutCount_eq, hself, hcommitted]
    refine countP_lt_countP (b := c) (fun d hd => ?_) (List.mem_range.mpr (State.lt_length_of_taken htaken)) ?_ ?_
    · obtain ⟨hstate, hown, hlist⟩ := of_decide_eq_true hd
      exact decide_eq_true ⟨hstate, hown, fun hin => hlist (List.mem_of_mem_erase hin)⟩
    · exact decide_eq_false fun hout => hout.2.2 hlisted
    · exact decide_eq_true ⟨htaken, howner, fun hin => absurd rfl ((List.Nodup.mem_erase_iff hnodup).mp hin).1⟩
  have hlength := List.length_erase_of_mem hlisted
  rw [State.holding, State.holding, hself, hcommitted, hopen]
  omega

/-- A retirement offers the room of a cell without a pin; a pinned cell makes none (R61). -/
theorem Waits.retireCell (h : Waits False S s) (htaken : (s.cell x.cell).state = .taken)
    (howner : (s.cell x.cell).owner = some x.queue) (hlisted : x.cell ∈ (s.queue x.queue).committed)
    (hnodup : (s.queue x.queue).committed.Nodup) : Waits False S (retireCell x s) := by
  have hstock : (freeTakeBinding x.init x.queue s).stock = s.stock := freeTakeBinding_stock ..
  have hfreed := h.of_stock hstock
  rw [← stock_cell hstock] at htaken howner
  rw [← stock_committed hstock] at hlisted hnodup
  have hunlisted {R' : Prop} (hR : False → R') (hholding : R' ∨ _) :=
    (hfreed.mono hR fun _ hS => hS).setQueue (q := x.queue)
      (y := { (freeTakeBinding x.init x.queue s).queue x.queue with
                committed := ((freeTakeBinding x.init x.queue s).queue x.queue).committed.erase x.cell })
      rfl rfl hholding (.inr fun _ hc => List.mem_of_mem_erase hc)
  unfold Machine.retireCell
  dsimp only
  split
  · exact ((hunlisted (R' := True) (fun _ => trivial) (.inl trivial)).appendFree trivial x.cell).offerRoom
  · exact hunlisted id (.inr (holding_unlist htaken howner hlisted hnodup rfl rfl))

theorem Waits.closeReadAck (h : Waits False S s) (htaken : (s.cell x.cell).state = .taken)
    (howner : (s.cell x.cell).owner = some x.queue) (hlisted : x.cell ∈ (s.queue x.queue).committed)
    (hnodup : (s.queue x.queue).committed.Nodup) (r : Request) (a : QueueAccess) (beats : List MemBeat) :
    Waits False S (closeReadAck x r a beats s) := by
  have hcount := (h.of_stock (retireHead_stock s)).decFlight x.cell
  refine Waits.tryFlushOwner ?_ _
  split
  · exact hcount.of_stock (respondFault_stock ..)
  · have hstock := respond_stock x.init .ok (r.body.returned beats) (Machine.decFlight x.cell (retireHead s))
    have hlist : ((respond x.init .ok (r.body.returned beats) (Machine.decFlight x.cell (retireHead s))).queue x.queue).committed =
        (s.queue x.queue).committed :=
      (stock_committed hstock x.queue).trans (stock_committed (retireHead_stock s) x.queue)
    refine (hcount.of_stock hstock).retireCell ?_ ?_ (hlist ▸ hlisted) (hlist ▸ hnodup)
    · rw [stock_cell hstock, decFlight_cell_state, stock_cell (retireHead_stock s), htaken]
    · rw [stock_cell hstock, decFlight_cell_owner, stock_cell (retireHead_stock s), howner]

/-! ### The acknowledgement of a peek -/

/-- A pin that falls makes room where it is the last of a retired cell (R9). -/
theorem Waits.releasePin (h : Waits R S s) (c : Nat) : Waits (R ∨ (releasePin c s).2 = true) S (releasePin c s).1 := by
  obtain ⟨hlast, hmore⟩ := releasePin_lastPin s c
  by_cases hpin : LastPin s c
  · rw [hlast hpin]
    exact (h.mono .inl fun _ hS => hS).appendFree (.inr rfl) c
  · rw [hmore hpin]
    exact (h.mono .inl fun _ hS => hS).updCell c (f := Cell.unpinnedOnce) rfl rfl

theorem Waits.peekAnswer (h : Waits False S s) (x : CellAccess) (r : Request) (a : QueueAccess) (beats : List MemBeat) :
    Waits False S (peekAnswer x r a beats s) := by
  have hanswer := ((h.of_stock (retireHead_stock s)).releasePin x.cell).answerAccess x r a beats
  refine Waits.tryFlushOwner ?_ _
  split
  · exact (hanswer.mono (fun _ => trivial) fun _ hS => hS).offerRoom
  next hnot => exact hanswer.mono (fun hR => hR.elim id hnot) fun _ hS => hS

/-! ### Control words -/

/-- ABANDON offers the room that it makes (R47, R92). -/
theorem Waits.abandonBinding (h : Waits False S s) (i : InitId) (q : QueueId) : Waits False S (abandonBinding i q s) := by
  unfold Machine.abandonBinding
  split
  · exact h
  next e b _ =>
    split
    next c _ =>
      have hroom := (h.of_stock (setPut_stock s e none)).mono (R' := True) (fun _ => trivial) fun _ hS => hS
      exact ((hroom.appendFree trivial c).decOpen trivial b.target).offerRoom
    · exact h.of_stock rfl
    · exact h.of_stock rfl

/-- What RETURN finds of a cell: the cell of an ACTIVE take binding keyed to the initiator and the queue is in the list of its
owner alone. -/
def Returnable (i : InitId) (q : QueueId) (s : State) : Prop :=
  ∀ e b c, s.takeBinding i q = some (e, b) → b.state = .active c →
    (s.cell c).owner = some q ∧ ∀ p, c ∈ (s.queue p).committed ↔ p = q

/-- RETURN offers the cell to the held takes of its queue, and makes no room (R63, R95). -/
theorem Waits.returnBinding (h : Waits R S s) (hreturn : Returnable i q s) : Waits R S (returnBinding i q s) := by
  unfold Machine.returnBinding
  split
  · exact h
  next e b hbind =>
    split
    next c hactive =>
      obtain ⟨howner, hlisted⟩ := hreturn e b c hbind hactive
      have hqueued := (h.mono (S' := fun p => p = q ∨ S p) id fun _ => .inr).setCell (c := c)
        (x := { s.cell c with state := .queued })
        (.inr fun p hp => by
          obtain ⟨-, hown, hout⟩ := heldOut_iff.mp hp
          obtain rfl := Option.some.inj (howner.symm.trans hown)
          exact absurd ((hlisted q).mpr rfl) hout)
        fun p hp _ => .inl (.inl ((hlisted p).mp hp))
      exact (hqueued.of_stock (setTake_stock _ e none)).serveTakes
    · exact h.of_stock rfl

theorem Accounted.returnable (h : Accounted s) (i : InitId) (q : QueueId) : Returnable i q s := fun e b c hbind hactive => by
  obtain ⟨hb, -, rfl, -⟩ := (takeBinding_eq_some_iff s i q e b).mp hbind
  obtain ⟨-, howner, hlisted⟩ := h.taken_listed hb hactive
  exact ⟨howner, fun p => ⟨fun hp => Option.some.inj ((h.cells.listed p c hp).1.symm.trans howner), fun hp => hp ▸ hlisted⟩⟩

/-! ### RETURN after ABANDON in one burst -/

/-- From `s` to `t` nothing happens to cell c, which is not on the Free List, to the committed lists and to the take bindings. -/
structure Undisturbed (c : Nat) (s t : State) : Prop where
  cell : t.cell c = s.cell c
  committed : ∀ p, (t.queue p).committed = (s.queue p).committed
  takeTable : t.takeTable = s.takeTable
  free : c ∉ s.freeList → c ∉ t.freeList

theorem Undisturbed.trans {u : State} (h : Undisturbed c s t) (h' : Undisturbed c t u) : Undisturbed c s u :=
  ⟨h'.cell.trans h.cell, fun p => (h'.committed p).trans (h.committed p), h'.takeTable.trans h.takeTable, h'.free ∘ h.free⟩

theorem Undisturbed.of_stock (h : t.stock = s.stock) (htake : t.takeTable = s.takeTable) : Undisturbed c s t := by
  have hlist : t.freeList = s.freeList := congrArg (fun p => p.1.2.1) h
  exact ⟨stock_cell h c, stock_committed h, htake, fun hc => hlist ▸ hc⟩

theorem openWrite_undisturbed (hfree : c ∉ s.freeList) (i : InitId) (r : Request) (a : QueueAccess) (target : QueueId)
    (origin : Option QueueId) (e : EntryId) : Undisturbed c s (openWrite i r a target origin e s) := by
  cases hlist : s.freeList with
  | nil =>
    have hnone : allocate target origin s = none := by rw [allocate, hlist]
    rw [openWrite, hnone]
    exact ⟨rfl, fun _ => rfl, rfl, id⟩
  | cons d rest =>
    rw [hlist] at hfree
    have hne : c ≠ d := fun hcd => hfree (hcd ▸ List.mem_cons_self)
    rw [openWrite_eq_handOver i r a target origin e hlist, handOver_eq]
    refine ⟨State.setCell_cell_ne s hne _, fun p => ?_, rfl, fun _ => fun hc => hfree (List.mem_cons_of_mem d hc)⟩
    change ((s.setQueue target { s.queue target with openCount := (s.queue target).openCount + 1 }).queue p).committed = _
    by_cases hp : p = target
    · rw [hp, State.setQueue_queue_self]
    · rw [State.setQueue_queue_ne s hp]

theorem grant_undisturbed (hfree : c ∉ s.freeList) (k : SlotId) (x : Slot) : Undisturbed c s (grant k x s) := by
  have hvacate : Undisturbed c s (s.vacate k) := ⟨rfl, fun _ => rfl, rfl, id⟩
  refine hvacate.trans ?_
  unfold grant
  dsimp only
  split
  · exact .of_stock (respondFault_stock ..) (by rw [respondFault_eq, State.appendRecord_eq]; rfl)
  · exact openWrite_undisturbed (s := s.vacate k) hfree ..

theorem offerRoom_undisturbed (hfree : c ∉ s.freeList) : Undisturbed c s (offerRoom s) := by
  unfold offerRoom
  split
  · exact ⟨rfl, fun _ => rfl, rfl, id⟩
  · exact grantLoop_keeps (P := Undisturbed c s) (fun u k x _ hu => hu.trans (grant_undisturbed (hu.free hfree) k x)) _
      ⟨rfl, fun _ => rfl, rfl, id⟩

theorem appendFree_undisturbed {d : Nat} (hne : c ≠ d) : Undisturbed c s (appendFree d s) where
  cell := State.setCell_cell_ne s hne Cell.freed
  committed _ := rfl
  takeTable := rfl
  free hfree hc := (List.mem_append.mp hc).elim hfree fun hd => hne (List.mem_singleton.mp hd)

theorem decOpen_undisturbed (p : QueueId) : Undisturbed c s (decOpen p s) where
  cell := rfl
  committed q := by
    rw [decOpen, State.updQueue_eq]
    by_cases hq : q = p
    · rw [hq, State.setQueue_queue_self]
    · rw [State.setQueue_queue_ne s hq]
  takeTable := rfl
  free := id

/-- ABANDON leaves the cell of every other binding (R47). -/
theorem abandonBinding_undisturbed (hfree : c ∉ s.freeList) (hopened : ∀ e, ¬ PutActive s e c) (i : InitId) (q : QueueId) :
    Undisturbed c s (abandonBinding i q s) := by
  have hfreed (e : EntryId) : Undisturbed c s (s.setPut e none) := ⟨rfl, fun _ => rfl, rfl, id⟩
  unfold abandonBinding
  split
  · exact ⟨rfl, fun _ => rfl, rfl, id⟩
  next e b hbind =>
    split
    next d hactive =>
      obtain ⟨hb, -⟩ := putBinding_eq_some hbind
      have hne : c ≠ d := fun hcd => hopened e ⟨b, hb, hcd ▸ hactive⟩
      have hroom := ((hfreed e).trans (appendFree_undisturbed hne)).trans (decOpen_undisturbed b.target)
      exact hroom.trans (offerRoom_undisturbed (hroom.free hfree))
    · exact hfreed e
    · exact hfreed e

theorem offerRoom_takeTable (s : State) : (offerRoom s).takeTable = s.takeTable := by
  rw [offerRoom_eq]
  rfl

theorem abandonBinding_takeTable (i : InitId) (q : QueueId) (s : State) : (abandonBinding i q s).takeTable = s.takeTable := by
  unfold abandonBinding
  split
  · rfl
  next e b _ =>
    split
    next c _ =>
      rw [offerRoom_takeTable, (decOpen_undisturbed (c := c) b.target).takeTable]
      rfl
    · rfl
    · rfl

/-- After ABANDON the cell that RETURN returns is as the accounting has it. -/
theorem Accounted.returnable_abandoned (h : Accounted s) (i : InitId) (q : QueueId) :
    Returnable i q (abandonBinding i q s) := fun e b c hbind hactive => by
  have htable := abandonBinding_takeTable i q s
  have hbound : s.takeBinding i q = some (e, b) := by
    rw [State.takeBinding, State.takeEntry, htable] at hbind
    exact hbind
  obtain ⟨hb, -⟩ := (takeBinding_eq_some_iff s i q e b).mp hbound
  obtain ⟨htaken, -⟩ := h.taken_listed hb hactive
  obtain ⟨howner, hlisted⟩ := h.returnable i q e b c hbound hactive
  have hkept := abandonBinding_undisturbed (c := c) (fun hc => nomatch ((h.cells.free_iff c).mp hc).2.symm.trans htaken)
    (fun f hf => nomatch ((h.cells.open_iff c).mpr ⟨f, hf⟩).symm.trans htaken) i q
  exact ⟨hkept.cell ▸ howner, fun p => hkept.committed p ▸ hlisted p⟩

/-- The words of a burst from RETURN on. -/
theorem Waits.controlBeats_return (bs : List WriteBeat) (w : Nat) (hw : 3 ≤ w) (h : Waits False S s)
    (hreturn : w = 3 → Returnable i q s) : Waits False S (controlBeats i q w bs s) := by
  induction bs generalizing w s with
  | nil => exact h
  | cons b bs ih =>
    refine ih (w + 1) (by omega) ?_ fun hw3 => by omega
    unfold controlBeat
    split
    · omega
    · exact h.returnBinding (hreturn rfl)
    · unfold eventsWritten
      split
      · exact h.of_stock (updFlags_stock ..)
      · exact h
    · exact h

/-- The beats of a control-page write: ABANDON, then RETURN, then EVENTS, each at most once (R127). -/
theorem Waits.controlBeats (h : Waits False S s) (hacc : Accounted s) (i : InitId) (q : QueueId) (w : Nat) (bs : List WriteBeat) :
    Waits False S (controlBeats i q w bs s) := by
  induction bs generalizing w with
  | nil => exact h
  | cons b bs ih =>
    obtain hw | rfl | hw : w < 2 ∨ w = 2 ∨ 3 ≤ w := by omega
    · have hnone : Machine.controlBeat i q w b s = s := by
        obtain rfl | rfl : w = 0 ∨ w = 1 := by omega
        · rfl
        · rfl
      rw [Machine.controlBeats, hnone]
      exact ih (w + 1)
    · exact Waits.controlBeats_return bs 3 (Nat.le_refl 3) (h.abandonBinding i q) fun _ => hacc.returnable_abandoned i q
    · exact Waits.controlBeats_return (b :: bs) w hw h fun _ => hacc.returnable i q

end

end Sys2Proof.Machine
end

section
/-! PROOF. Every step leaves every held request waiting (R91): expiries, the management link, resets, and the commands one by one. -/

namespace Sys2Proof.Machine

section
variable {R : Prop} {S : QueueId → Prop} {s t : State} {q : QueueId} {i : InitId}

/-! ### Expiries -/

theorem Waits.expire (h : Waits R S s) (k : SlotId) (x : Slot) : Waits R S (expire k x s) := by
  have hvacated := h.vacate k
  unfold Machine.expire
  split
  · exact ((hvacated.of_stock (raiseUnderrun_stock ..)).of_stock (raiseExpired_stock ..)).of_stock (respond_stock ..)
  · have hraised : Waits R S ((s.vacate k).raiseExpired x.queue) := hvacated.of_stock (raiseExpired_stock ..)
    unfold expirePut
    dsimp only
    split
    · exact hraised.of_stock (respondFault_stock ..)
    · exact hraised.of_stock (dropWrite_stock ..)

theorem Waits.advanceTick (h : Waits R S s) : Waits R S (advanceTick s) := by
  rw [advanceTick_eq, expireDue_eq_foldl]
  have hfold (order : List SlotId) (u : State) (hu : Waits R S u) : Waits R S (order.foldl expireSlot u) := by
    induction order generalizing u with
    | nil => exact hu
    | cons k ks ih =>
      refine ih _ ?_
      unfold expireSlot
      split
      · split
        · exact hu.expire ..
        · exact hu
      · exact hu
  exact hfold _ _ (h.of_stock rfl)

/-! ### A disable and the start of a flush -/

/-- A queue that is no longer ENABLED holds no request once its held requests are released (R99, R100). -/
theorem Waits.releaseHeld (h : Waits R S s) {resp : QueueConfig → Slot → Response} {counted : Slot → State → State}
    {f : SlotId → Slot → State → State} (hf : Releases q resp counted f) (hcounted : ∀ x u, (counted x u).place = u.place)
    (hnodup : s.arrival.Nodup) {y : QueueCtx} (hy : y.config = (s.queue q).config) :
    Waits R S (releaseHeld q f (s.setQueue q y)) := by
  obtain ⟨-, hframe, harrival, hslots⟩ := releaseHeld_spec hf hy hnodup rfl
  have hfold (l : List Slot) (u : State) : (l.foldl (fun u x => counted x u) u).place = u.place := by
    induction l generalizing u with
    | nil => rfl
    | cons x l ih => exact (ih _).trans (hcounted x u)
  have hplace : (Machine.releaseHeld q f (s.setQueue q y)).place = (s.setQueue q y).place := by
    rw [hframe]
    exact hfold ..
  have hleft (k : SlotId) (x : Slot) (hk : (Machine.releaseHeld q f (s.setQueue q y)).slots[k] = some x) :
      s.slots[k] = some x ∧ ¬ HoldsOn s q k := by
    have hnot : ¬ HoldsOn s q k := fun hholds => nomatch ((hslots k).1 hholds).symm.trans hk
    exact ⟨((hslots k).2 hnot).symm.trans hk, hnot⟩
  have hdrain := place_drain hplace
  refine h.tighten hdrain (fun k x hk => ?_) fun k x hk _ => ?_
  · obtain ⟨hslot, hnot⟩ := hleft k x hk
    refine ⟨hslot, fun hin => ?_⟩
    rw [harrival]
    refine List.mem_filter.mpr ⟨hin, Bool.not_eq_true' _ ▸ Bool.eq_false_iff.mpr fun hholds => hnot ⟨hin, holdsFor_iff.mp hholds⟩⟩
  · obtain ⟨hslot, hnot⟩ := hleft k x hk
    have hne : x.queue ≠ q := fun hq => hnot ⟨(h.waiting k x hslot).listed, x, hslot, hq⟩
    exact (Tighter.setQueue_ne hne y).trans (.of_place hplace x.queue)

theorem countDisabled_place (q : QueueId) (x : Slot) (s : State) : (countDisabled q x s).place = s.place := by
  cases h : x.kind with
  | take => rw [countDisabled_take h]; exact congrArg Prod.fst (raiseUnderrun_stock s q)
  | put => rw [countDisabled_put h]; exact congrArg Prod.fst (appendRecord_stock s _)

theorem Waits.disableQueue (h : Waits R S s) (hnodup : s.arrival.Nodup) (q : QueueId) : Waits R S (disableQueue q s) := by
  by_cases henabled : (s.queue q).state = .rest .enabled
  · rw [disableQueue_enabled henabled]
    exact h.releaseHeld (releases_disabled q) (countDisabled_place q) hnodup rfl
  · rwa [Machine.disableQueue, if_neg henabled]

theorem Waits.startFlush (h : Waits R S s) (hnodup : s.arrival.Nodup) (q : QueueId) : Waits R S (startFlush q s) := by
  have hreleased : Waits R S (Machine.releaseHeld q releaseFlushed
      (s.updQueue q fun x => { x with state := x.state.flushed })) :=
    h.releaseHeld (releases_flushed q) (fun _ _ => rfl) hnodup rfl
  exact hreleased.of_stock rfl

theorem Waits.flushQueue (h : Waits False S s) (hnodup : s.arrival.Nodup) (q : QueueId) : Waits False S (flushQueue q s).1 := by
  unfold Machine.flushQueue
  dsimp only
  split
  next hdone => exact (h.startFlush hnodup q).completeFlush (isFlushing_of_flushDone hdone)
  · exact h.startFlush hnodup q

/-! ### Configuration -/

/-- Only a DISABLED queue is configured, and no request is held for it (R105). -/
theorem Waits.writeConfig (h : Waits R S s) (q : QueueId) (c : QueueConfig) : Waits R S (writeConfig q c s).1 := by
  unfold Machine.writeConfig
  split
  next hok => exact h.setQueue_idle (fun henabled => nomatch hok.1.symm.trans henabled) _
  · exact h.of_stock (appendRecord_stock ..)

theorem Waits.enableQueue (h : Waits R S s) (q : QueueId) : Waits R S (enableQueue q s).1 := by
  unfold Machine.enableQueue
  split
  · exact h.of_stock (appendRecord_stock ..)
  · by_cases henabled : (s.queue q).state = .rest .enabled
    · exact h.of_stock (updQueue_stock (by rw [QueueCtx.stock, QueueCtx.stock, henabled]; rfl))
    · exact h.setQueue_idle henabled _

/-- The pool is rebuilt only while steering is OFF, and no request is held then (R114, R175). -/
theorem Waits.configPool (h : Waits R S s) (hoff : OffIsIdle s) (base : Addr) (n : Nat) (g : Bool) :
    Waits R S (configPool base n g s).1 := by
  unfold Machine.configPool
  split
  next hok =>
    obtain ⟨-, -, hslots, -⟩ := hoff hok.1
    exact .of_empty hslots
  · exact h.of_stock (appendRecord_stock ..)

/-! ### Resets -/

theorem Waits.endDrain (h : Waits False S { s with drain := false }) : Waits False S (endDrain s) := by
  have hfold (qs : List QueueId) (u : State) (hu : Waits False S u) : Waits False S (qs.foldl (fun s q => Machine.tryFlush q s) u) := by
    induction qs generalizing u with
    | nil => exact hu
    | cons q qs ih => exact ih _ (hu.tryFlush q)
  exact hfold _ _ h

/-- The end of a drain finds no held request (R25, R101). -/
theorem settleDrain_waits (h : ∀ k : SlotId, s.slots[k] = none) : Waits False S (settleDrain s) := by
  unfold settleDrain
  split
  · exact .endDrain (.of_empty h)
  · exact .of_empty h

theorem dropAccess_slots (x : CellAccess) (s : State) : (dropAccess x s).slots = s.slots := by
  unfold dropAccess
  split
  · rw [releasePin_eq]
  · rfl
  · rfl
  · rfl

theorem dropWaiter_slots (s : State) (w : Waiter) : (dropWaiter s w).slots = s.slots := by
  unfold dropWaiter
  split
  · exact dropAccess_slots ..
  · rfl
  · rfl

theorem assertSysReset_waits (s : State) : Waits False S (assertSysReset s) := by
  have hfold (ws : List Waiter) (u : State) : (ws.foldl dropWaiter u).slots = u.slots := by
    induction ws generalizing u with
    | nil => rfl
    | cons w ws ih => exact (ih _).trans (dropWaiter_slots u w)
  refine settleDrain_waits fun k => ?_
  rw [hfold, resetTables_eq]
  exact Vector.getElem_replicate ..

theorem assertPwrReset_waits (s : State) : Waits R S (assertPwrReset s) :=
  .of_empty fun _ => Vector.getElem_replicate ..

/-! ### The outcome of a command -/

/-- Every held request waits after the outcome. -/
def WaitsAfter (o : Host.Outcome State Fault Refusal) : Prop := ∀ t, o = .next t → Waits.All t

theorem waitsAfter_next (h : Waits.All t) : WaitsAfter (.next t) := by
  rintro _ ⟨⟩
  exact h

theorem waitsAfter_finish (h : Waits.All t) : WaitsAfter (finish t) := by
  rintro _ ⟨⟩
  exact h.of_stock (notify_stock t)

/-- An outcome that leaves what the held requests wait for. -/
def StockKept (s : State) (o : Host.Outcome State Fault Refusal) : Prop := ∀ t, o = .next t → t.stock = s.stock

@[simp] theorem stockKept_next : StockKept s (.next t) ↔ t.stock = s.stock :=
  ⟨fun h => h t rfl, fun h => by rintro _ ⟨⟩; exact h⟩

@[simp] theorem stockKept_finish : StockKept s (finish t) ↔ t.stock = s.stock := stockKept_next

@[simp] theorem stockKept_answerLink (status : LinkStatus) (data : List Byte) :
    StockKept s (answerLink status data t) ↔ t.stock = s.stock := stockKept_next

theorem Waits.All.after (h : Waits.All s) {o : Host.Outcome State Fault Refusal} (ho : StockKept s o) : WaitsAfter o :=
  fun t ht => h.of_stock (ho t ht)

/-- A link command, by what it is carried out as (R171). -/
theorem Waits.All.carryOut (h : Waits.All s) {always : Bool} {code : Byte}
    {body : State → Option (State × LinkStatus × List Byte)} (hbody : ∀ r, body s = some r → Waits.All r.1) :
    WaitsAfter (carryOut always code body s) := by
  intro t ht
  obtain rfl | ⟨n, left, rfl⟩ | ⟨status, rfl⟩ | ⟨u, status, data, hr, -, -, rfl⟩ := carryOut_cases ht
  · exact h
  · exact h.of_stock (clockBytes_stock ..)
  · exact h.of_stock (replied_stock ..)
  · exact (hbody _ hr).of_stock (replied_stock ..)

theorem Waits.All.carryOut_index (h : Waits.All s) {always : Bool} {code b : Byte}
    {f : Fin 16 → State → State × LinkStatus × List Byte} (hf : ∀ q, Waits.All (f q s).1) :
    WaitsAfter (Machine.carryOut always code (fun s => (index16? b).map (fun q => f q s)) s) := by
  refine h.carryOut fun r hr => ?_
  obtain ⟨q, -, rfl⟩ := Option.map_eq_some_iff.mp hr
  exact hf q

theorem Waits.All.cellAck (h : Waits.All s) {o : Option (CellAccess × Request × QueueAccess)} {own : CellAccess → Prop}
    [DecidablePred own] {f : CellAccess → Request → QueueAccess → State}
    (hf : ∀ x r a, o = some (x, r, a) → own x → Waits.All (f x r a)) : WaitsAfter (match (generalizing := false) o with
      | some (x, r, a) => if own x then finish (f x r a) else .next s
      | none => .next s) := by
  intro t ht
  obtain rfl | ⟨x, r, a, ho, hown, rfl⟩ := cellAck_cases ht
  · exact h
  · exact (hf x r a ho hown).of_stock (notify_stock _)

end

end Sys2Proof.Machine
end

section
/-! PROOF. The commands, one by one, and HeldRequestsGranted (R91 to R95). -/

namespace Sys2Proof.Machine

section
variable {s t : State}

/-! ### Commands that touch nothing a held request waits for -/

/-- The commands of the system port, the Merge Unit, the memory port and the link's frames, and the releases of the resets. -/
def unstocking : Instr → Bool
  | .requestAccept _ _ | .adRefusalAnswer _ | .passThrough _ | .passThroughAck _ | .summaryRead _ | .controlPageRead _ => true
  | .mergeRead _ | .mergeReadAck _ | .mergeWrite _ | .mergeBeatLock _ | .mergeBeatReadIssue _ | .mergeBeatReadAck _
  | .mergeBeatWriteAck _ | .lockWaiterRelease | .memoryPresent => true
  | .sysResetRelease | .pwrResetRelease | .frameStart | .frameEnd | .frameAbort | .responseCut | .unknownCommand _ => true
  | _ => false

@[simp] theorem beatComputed_stock (i : InitId) (m : MergeAccess) (j : Nat) (old : Word) (s : State) :
    (beatComputed i m j old s).stock = s.stock := by
  unfold beatComputed
  dsimp only
  split <;> simp

theorem exec_stockKept (c : Instr) (hc : unstocking c = true) (s : State) : StockKept s (exec c s) := by
  cases c with
  | requestAccept i offer =>
    change StockKept s (execRequestAccept i offer s)
    unfold execRequestAccept
    repeat' split
    all_goals simp
  | adRefusalAnswer i =>
    change StockKept s (execAdRefusalAnswer i s)
    unfold execAdRefusalAnswer
    split <;> simp
  | passThrough i =>
    change StockKept s (execPassThrough i s)
    unfold execPassThrough
    split <;> simp
  | passThroughAck beats =>
    change StockKept s (execPassThroughAck beats s)
    unfold execPassThroughAck
    repeat' split
    all_goals simp
  | summaryRead i =>
    change StockKept s (execSummaryRead i s)
    unfold execSummaryRead
    repeat' split
    all_goals simp
  | controlPageRead i =>
    change StockKept s (execControlPageRead i s)
    unfold execControlPageRead
    repeat' split
    all_goals simp
  | mergeRead i =>
    change StockKept s (execMergeRead i s)
    unfold execMergeRead
    repeat' split
    all_goals simp
  | mergeReadAck beats =>
    change StockKept s (execMergeReadAck beats s)
    unfold execMergeReadAck
    repeat' split
    all_goals simp
  | mergeWrite i =>
    change StockKept s (execMergeWrite i s)
    unfold execMergeWrite
    repeat' split
    all_goals simp
  | mergeBeatLock i =>
    change StockKept s (execMergeBeatLock i s)
    unfold execMergeBeatLock
    dsimp only
    repeat' split
    all_goals exact stockKept_next.mpr rfl
  | mergeBeatReadIssue i =>
    change StockKept s (execMergeBeatReadIssue i s)
    unfold execMergeBeatReadIssue
    dsimp only
    repeat' split
    all_goals simp
  | mergeBeatReadAck beats =>
    change StockKept s (execMergeBeatReadAck beats s)
    unfold execMergeBeatReadAck
    repeat' split
    all_goals simp
  | mergeBeatWriteAck beats =>
    change StockKept s (execMergeBeatWriteAck beats s)
    unfold execMergeBeatWriteAck
    repeat' split
    all_goals simp
  | lockWaiterRelease => exact stockKept_next.mpr (settleWaiters_stock s)
  | memoryPresent => exact stockKept_next.mpr (present_stock s)
  | sysResetRelease => exact stockKept_next.mpr rfl
  | pwrResetRelease =>
    change StockKept s (execPwrResetRelease s)
    unfold execPwrResetRelease
    split <;> exact stockKept_next.mpr rfl
  | frameStart =>
    change StockKept s (execFrameStart s)
    unfold execFrameStart
    split <;> exact stockKept_next.mpr rfl
  | frameEnd =>
    change StockKept s (execFrameEnd s)
    unfold execFrameEnd
    split <;> exact stockKept_next.mpr rfl
  | frameAbort =>
    change StockKept s (execFrameAbort s)
    unfold execFrameAbort
    split <;> exact stockKept_next.mpr rfl
  | responseCut =>
    change StockKept s (execResponseCut s)
    unfold execResponseCut
    repeat' split
    all_goals exact stockKept_next.mpr rfl
  | unknownCommand code =>
    change StockKept s (execUnknownCommand code s)
    unfold execUnknownCommand
    repeat' split
    all_goals simp
  | _ => cases hc

/-! ### What a command finds -/

theorem mem_outstanding_of_acknowledged {beats : List MemBeat} {m : MemReq} (h : s.acknowledged beats = some m) : m ∈ s.outstanding := by
  unfold State.acknowledged at h
  split at h
  · cases h
  next hout =>
    split at h <;> cases h
    exact hout ▸ List.mem_cons_self

/-- The discarded access of the QE ends while the reset drain is set, and no request is held then (R25, R101). -/
theorem Accounted.discardedAck_waits (h : Accounted s) (hwaits : Waits.All s) (beats : List MemBeat) :
    WaitsAfter (exec (.discardedAck beats) s) := by
  have hretire : WaitsAfter (.next (retireHead s)) := waitsAfter_next (hwaits.of_stock (retireHead_stock s))
  change WaitsAfter (execDiscardedAck beats s)
  unfold execDiscardedAck
  split
  next m hack =>
    split
    · exact waitsAfter_next hwaits
    · exact hretire
    next hfate =>
      split
      next x howner =>
        have hdrain : s.drain = true := by
          refine Bool.not_eq_false _ ▸ fun hclear => ?_
          exact h.accesses.clear hclear m (List.mem_append_right _ (mem_outstanding_of_acknowledged hack)) x howner hfate
        refine waitsAfter_finish (settleDrain_waits fun k => ?_)
        rw [dropAccess_slots, retireHead_eq]
        exact (h.accesses.drained hdrain).2.1 k
      all_goals exact hretire
  · exact waitsAfter_next hwaits

/-- A cell on the Free List is FREE (R3). -/
theorem Accounted.head_free (h : Accounted s) (c : Nat) (rest : List Nat) (hfree : s.freeList = c :: rest) :
    (s.cell c).state ≠ .taken := fun htaken =>
  nomatch ((h.cells.free_iff c).mp (hfree ▸ List.mem_cons_self)).2.symm.trans htaken

theorem undrained_of_windowRequest {w : Window} {i : InitId} {r : Request} {a : QueueAccess}
    (h : s.windowRequest w i = some (r, a)) : s.drain = false :=
  Bool.eq_false_iff.mpr fun hdrain => nomatch (windowRequest_eq_none hdrain w i).symm.trans h

theorem Accounted.controlWriteIf_waits (h : Accounted s) (hwaits : Waits.All s) (test : List Nat → Bool) (i : InitId) :
    WaitsAfter (controlWriteIf test i s) := by
  unfold controlWriteIf
  split
  next a bs _ =>
    split
    · exact waitsAfter_finish ((hwaits.controlBeats h i a.queue a.first bs).of_stock (respond_stock ..))
    · exact waitsAfter_next hwaits
  · exact waitsAfter_next hwaits

/-! ### Window commands -/

theorem Accounted.putWindowWrite_waits (h : Accounted s) (hwaits : Waits.All s) (i : InitId) :
    WaitsAfter (exec (.putWindowWrite i) s) := by
  change WaitsAfter (execPutWindowWrite i s)
  unfold execPutWindowWrite
  split
  next hfound =>
    split
    · exact waitsAfter_finish (hwaits.putWrite h.head_free (undrained_of_windowRequest hfound) ..)
    · exact waitsAfter_next hwaits
  · exact waitsAfter_next hwaits

theorem putWindowRead_waits (hwaits : Waits.All s) (i : InitId) : WaitsAfter (exec (.putWindowRead i) s) := by
  change WaitsAfter (execPutWindowRead i s)
  unfold execPutWindowRead
  split
  · split
    · exact waitsAfter_next hwaits
    · exact waitsAfter_finish (hwaits.putWindowRead ..)
  · exact waitsAfter_next hwaits

theorem takeWindowRead_waits (hwaits : Waits.All s) (i : InitId) : WaitsAfter (exec (.takeWindowRead i) s) := by
  change WaitsAfter (execTakeWindowRead i s)
  unfold execTakeWindowRead
  split
  next hfound =>
    split
    · exact waitsAfter_next hwaits
    · exact waitsAfter_finish (hwaits.takeWindowRead (undrained_of_windowRequest hfound) ..)
  · exact waitsAfter_next hwaits

theorem peekRead_waits (hwaits : Waits.All s) (i : InitId) : WaitsAfter (exec (.peekRead i) s) := by
  change WaitsAfter (execPeekRead i s)
  unfold execPeekRead
  split
  · split
    · exact waitsAfter_next hwaits
    · exact waitsAfter_finish (hwaits.peekWindowRead ..)
  · exact waitsAfter_next hwaits

/-! ### Expiries, grants, services and flushes as commands of their own -/

theorem tickAdvance_waits (hwaits : Waits.All s) : WaitsAfter (exec .tickAdvance s) := by
  change WaitsAfter (execTickAdvance s)
  unfold execTickAdvance
  split
  · exact waitsAfter_next hwaits
  · exact waitsAfter_finish hwaits.advanceTick

theorem expiry_waits (hwaits : Waits.All s) (p : HeldKind × InitId) : WaitsAfter (exec (expiryCommand p) s) := by
  cases hdue : s.dueHeld p.1 p.2 with
  | none =>
    rw [exec_expiryCommand_none hdue]
    exact waitsAfter_next hwaits
  | some kx =>
    rw [exec_expiryCommand hdue]
    exact waitsAfter_finish (hwaits.expire kx.1 kx.2)

theorem exec_heldPutGrant_idle (h : s.drain = true ∨ grantee s = none) : exec .heldPutGrant s = .next s := by
  change execHeldPutGrant s = _
  unfold execHeldPutGrant
  split
  · rfl
  next hdrain => rw [h.resolve_left hdrain]

theorem exec_heldPutGrant_found {k : SlotId} {x : Slot} (hdrain : s.drain = false) (h : grantee s = some (k, x)) :
    exec .heldPutGrant s = .next (grant k x s).notify := by
  change execHeldPutGrant s = _
  rw [execHeldPutGrant, if_neg (ne_true_of_eq_false hdrain), h]
  rfl

theorem exec_heldTakeService_eq (q : QueueId) (s : State) : exec (.heldTakeService q) s =
    match s.heldTake q, s.oldest q with
    | some (k, x), some c => finish (serve k x c s)
    | _, _ => .next s := rfl

theorem exec_heldTakeService_idle {q : QueueId} (h : NoService s q) : exec (.heldTakeService q) s = .next s := by
  rw [exec_heldTakeService_eq]
  obtain h | h := h
  · rw [h]
  · cases s.heldTake q <;> rw [h]

theorem exec_heldTakeService_found {q : QueueId} {k : SlotId} {x : Slot} {c : Nat} (hheld : s.heldTake q = some (k, x))
    (hcell : s.oldest q = some c) : exec (.heldTakeService q) s = .next (serve k x c s).notify := by
  rw [exec_heldTakeService_eq, hheld, hcell]
  rfl

/-- Where every held request waits there is nothing to grant (R91, R92). -/
theorem Waits.All.grantee_none (h : Waits.All s) : grantee s = none :=
  grantee_eq_none_iff.mpr fun k _ x hk hput => ((h.waiting k x hk).put hput).resolve_left id

/-- Where every held request waits there is nothing to serve (R91, R95). -/
theorem Waits.All.noService (h : Waits.All s) (q : QueueId) : NoService s q := by
  cases hheld : s.heldTake q with
  | none => exact .inl hheld
  | some kx =>
    obtain ⟨before, after, -, hslot, htake, rfl, -⟩ := heldTake_eq_some_iff.mp hheld
    exact .inr (((h.waiting kx.1 kx.2 hslot).take htake).resolve_left id)

theorem flushCompletion_waits (hwaits : Waits.All s) (q : QueueId) : WaitsAfter (exec (.flushCompletion q) s) := by
  change WaitsAfter (execFlushCompletion q s)
  unfold execFlushCompletion
  split
  next hdone => exact waitsAfter_finish (hwaits.completeFlush (isFlushing_of_flushDone hdone))
  · exact waitsAfter_next hwaits

/-! ### Resets -/

theorem sysResetAssert_waits (hwaits : Waits.All s) : WaitsAfter (exec .sysResetAssert s) := by
  change WaitsAfter (execSysResetAssert s)
  unfold execSysResetAssert
  repeat' split
  · exact waitsAfter_next hwaits
  · exact waitsAfter_next (hwaits.of_stock rfl)
  · exact waitsAfter_finish (assertSysReset_waits s)

theorem Accounted.resetDrainEnd_waits (h : Accounted s) (hwaits : Waits.All s) : WaitsAfter (exec .resetDrainEnd s) := by
  change WaitsAfter (execResetDrainEnd s)
  unfold execResetDrainEnd
  split
  next hover =>
    obtain ⟨hdrain, -⟩ := Bool.and_eq_true _ _ ▸ hover
    obtain ⟨-, hslots, -⟩ := h.accesses.drained hdrain
    exact waitsAfter_finish (.endDrain (.of_empty hslots))
  · exact waitsAfter_next hwaits

/-! ### Link commands -/

theorem apertureEnable_waits (hwaits : Waits.All s) (b : Byte) : WaitsAfter (exec (.apertureEnable b) s) := by
  refine hwaits.carryOut_index fun k => ?_
  unfold enableAperture
  dsimp only
  repeat' split
  · exact hwaits
  · exact hwaits.of_stock rfl
  · exact hwaits

theorem apertureWrite_waits (hwaits : Waits.All s) (b : Byte) (im : ApertureImage) : WaitsAfter (exec (.apertureWrite b im) s) := by
  refine hwaits.carryOut fun r hr => ?_
  split at hr <;> cases hr
  unfold writeAperture
  split
  · exact hwaits.of_stock (appendRecord_stock ..)
  · exact hwaits.of_stock rfl

theorem queueConfigWrite_waits (hwaits : Waits.All s) (b : Byte) (im : ConfigImage) :
    WaitsAfter (exec (.queueConfigWrite b im) s) := by
  refine hwaits.carryOut fun r hr => ?_
  split at hr <;> cases hr
  exact hwaits.writeConfig ..

theorem eventsClear_waits (hwaits : Waits.All s) (b sel : Byte) : WaitsAfter (exec (.eventsClear b sel) s) := by
  refine hwaits.carryOut fun r hr => ?_
  split at hr <;> cases hr
  exact hwaits.of_stock (updFlags_stock ..)

theorem Accounted.poolConfig_waits (h : Accounted s) (hwaits : Waits.All s) (base : Addr) (cells : BitVec 16) (g : Byte) :
    WaitsAfter (exec (.poolConfig base cells g) s) := by
  refine hwaits.carryOut fun r hr => ?_
  split at hr <;> cases hr
  exact hwaits.configPool h.off ..

theorem steerOff_waits (hwaits : Waits.All s) : WaitsAfter (exec .steerOff s) := by
  refine hwaits.carryOut fun r hr => ?_
  cases hr
  repeat' split
  · exact hwaits
  · exact hwaits.of_stock rfl
  · exact hwaits

theorem lineConfig_waits (hwaits : Waits.All s) (routing : Byte) : WaitsAfter (exec (.lineConfig routing) s) := by
  refine hwaits.carryOut fun r hr => ?_
  obtain ⟨l, -, rfl⟩ := Option.map_eq_some_iff.mp hr
  exact hwaits.of_stock rfl

theorem faultDrop_waits (hwaits : Waits.All s) : WaitsAfter (exec .faultDrop s) := by
  refine hwaits.carryOut fun r hr => ?_
  cases hr
  exact hwaits.of_stock (by rw [dropRecord_eq]; rfl)

/-! ### Every command -/

/-- A held request that waits keeps waiting through every command (R91). -/
theorem exec_waits (h : Accounted s) (hwaits : Waits.All s) (c : Instr) : WaitsAfter (exec c s) := by
  cases hc : unstocking c with
  | true => exact hwaits.after (exec_stockKept c hc s)
  | false =>
    cases c with
    | putWindowWrite i => exact h.putWindowWrite_waits hwaits i
    | putWindowRead i => exact putWindowRead_waits hwaits i
    | takeWindowRead i => exact takeWindowRead_waits hwaits i
    | peekRead i => exact peekRead_waits hwaits i
    | compositionWriteAck beats => exact hwaits.cellAck fun x r a _ _ => hwaits.composeAck x r a beats
    | putWindowReadAck beats => exact hwaits.cellAck fun x r a _ _ => hwaits.readAck x r a beats
    | takeReadAck beats => exact hwaits.cellAck fun x r a _ _ => hwaits.readAck x r a beats
    | peekAck beats => exact hwaits.cellAck fun x r a _ _ => hwaits.peekAnswer x r a beats
    | closingWriteAck beats =>
      refine hwaits.cellAck fun x r a hack huse => ?_
      obtain ⟨hopened, hunlisted⟩ := h.composed_cell hack huse
      exact hwaits.closeAck hopened hunlisted r a beats
    | closingReadAck beats =>
      refine hwaits.cellAck fun x r a hack huse => ?_
      obtain ⟨htaken, howner, hlisted⟩ := h.read_cell hack huse
      exact hwaits.closeReadAck htaken howner hlisted (h.cells.listed_nodup x.queue) r a beats
    | abandon i => exact h.controlWriteIf_waits hwaits (fun ws => ws.contains 2) i
    | returnWord i => exact h.controlWriteIf_waits hwaits (fun ws => ws.contains 3) i
    | eventsWrite i => exact h.controlWriteIf_waits hwaits (fun ws => ws.contains 4) i
    | controlWordWrite i => exact h.controlWriteIf_waits hwaits (fun ws => ws.all (fun w => !effectWords.contains w)) i
    | discardedAck beats => exact h.discardedAck_waits hwaits beats
    | tickAdvance => exact tickAdvance_waits hwaits
    | heldTakeExpiry i => exact expiry_waits hwaits (.take, i)
    | heldPutExpiry i => exact expiry_waits hwaits (.put, i)
    | heldPutGrant => exact exec_heldPutGrant_idle (.inr hwaits.grantee_none) ▸ waitsAfter_next hwaits
    | heldTakeService q => exact exec_heldTakeService_idle (hwaits.noService q) ▸ waitsAfter_next hwaits
    | flushCompletion q => exact flushCompletion_waits hwaits q
    | sysResetAssert => exact sysResetAssert_waits hwaits
    | resetDrainEnd => exact h.resetDrainEnd_waits hwaits
    | pwrResetAssert => exact waitsAfter_next (assertPwrReset_waits s)
    | identify => exact hwaits.carryOut fun _ hr => by cases hr; exact hwaits
    | status => exact hwaits.carryOut fun _ hr => by cases hr; exact hwaits
    | faultPeek => exact hwaits.carryOut fun _ hr => by cases hr; exact hwaits
    | apertureRead b => exact hwaits.carryOut_index fun _ => hwaits
    | queueConfigRead b => exact hwaits.carryOut_index fun _ => hwaits
    | queueStateRead b => exact hwaits.carryOut_index fun _ => hwaits
    | apertureDisable b => exact hwaits.carryOut_index fun _ => hwaits.of_stock rfl
    | apertureEnable b => exact apertureEnable_waits hwaits b
    | apertureWrite b im => exact apertureWrite_waits hwaits b im
    | queueConfigWrite b im => exact queueConfigWrite_waits hwaits b im
    | queueEnable b => exact hwaits.carryOut_index hwaits.enableQueue
    | queueDisable b => exact hwaits.carryOut_index (hwaits.disableQueue h.keys.arrival_nodup)
    | queueFlush b => exact hwaits.carryOut_index (hwaits.flushQueue h.keys.arrival_nodup)
    | countersClear b => exact hwaits.carryOut_index fun q => hwaits.of_stock (updQueue_stock rfl)
    | eventsClear b sel => exact eventsClear_waits hwaits b sel
    | poolConfig base cells g => exact h.poolConfig_waits hwaits base cells g
    | tickConfig n => exact hwaits.carryOut fun _ hr => by cases hr; exact hwaits.of_stock rfl
    | steerOn => exact hwaits.carryOut fun _ hr => by cases hr; exact hwaits.of_stock rfl
    | steerOff => exact steerOff_waits hwaits
    | lineConfig routing => exact lineConfig_waits hwaits routing
    | faultDrop => exact faultDrop_waits hwaits
    | _ => cases hc

/-- The queue of commands is no part of the accounting. -/
theorem Accounted.withPending (h : Accounted s) (rest : List Instr) : Accounted { s with pending := rest } := by
  obtain ⟨hcells, hkeys, haccesses, hrequests, hoff⟩ := h
  exact ⟨{ hcells with }, { hkeys with }, { haccesses with }, { hrequests with }, hoff⟩

/-- Every step keeps every held request waiting (R91). -/
theorem heldWait_step (h : Accounted s) (hwait : HeldWait s) (hstep : step s = .next t) : HeldWait t := by
  unfold step at hstep
  split at hstep
  · have hwaits := waits_of_accounted h hwait
    unfold partClock at hstep
    repeat' split at hstep
    · cases hstep; exact hwait
    · cases hstep; exact Waits.All.heldWait (hwaits.of_stock rfl)
    · exact (waitsAfter_finish hwaits.advanceTick t hstep).heldWait
  next c rest _ =>
    have hacc := h.withPending rest
    exact (exec_waits hacc (waits_of_accounted hacc hwait) c t hstep).heldWait

end

end Sys2Proof.Machine
end

section
/-! PROOF. HeldRequestsGranted (R91 to R95). -/

namespace Sys2Proof.Machine

section
variable {s : State} {k : SlotId} {x : Slot}

/-- A held put that is granted a cell is an opening write on its queue (R31, R93). -/
theorem grant_eq_handOver {e : EntryId} {c : Nat} {rest : List Nat} (hqueue : x.access.queue = x.queue) (hentry : s.freePut = some e)
    (hfree : s.freeList = c :: rest) :
    grant k x s = handOver (s.cellWord x.init x.req x.access x.queue c (.compose (x.access.closing x.req.body.count)))
      { s with
          slots := s.slots.set k none, arrival := s.arrival.filter (fun j => decide (j ≠ k)), freeList := rest,
          cells := s.cells.set c
            { state := .opened, owner := some x.queue, origin := none, sequence := none,
              written := some (writtenBits x.access.first x.req.body.writeBeats), complete := false, damaged := false,
              pins := 0, inFlight := 1 },
          queues := s.queues.set x.queue { s.queue x.queue with openCount := (s.queue x.queue).openCount + 1 },
          putTable := s.putTable.set e
            (some { init := x.init, origin := x.queue, target := x.queue, state := .active c }) } := by
  have hvacant : (s.vacate k).freePut = some e := hentry
  rw [grant, hvacant]
  dsimp only
  rw [openWrite_eq_handOver x.init x.req x.access x.queue none e (s := s.vacate k) hfree, State.opened, opening_composed, hqueue]
  rfl

/-- A held put that finds the Put Binding Table full is answered NO_BINDING (R93). -/
theorem grant_eq_fault (hentry : s.freePut = none) :
    grant k x s =
      respondFault .noBinding x.init x.req.addr (some x.access.aperture) (some x.queue) [] (s.vacate k) := by
  have hvacant : (s.vacate k).freePut = none := hentry
  rw [grant, hvacant]

/-- A held take that is served binds the cell and reads it (R54, R95). -/
theorem serve_eq_handOver {e : EntryId} {c : Nat} (hqueue : x.access.queue = x.queue) (hentry : s.freeTake = some e) :
    serve k x c s = handOver (s.cellWord x.init x.req x.access x.queue c (.take (x.access.closing x.req.body.count)))
      { s with
          slots := s.slots.set k none, arrival := s.arrival.filter (fun j => decide (j ≠ k)),
          cells := s.cells.set c { s.cell c with state := .taken, inFlight := (s.cell c).inFlight + 1 },
          takeTable := s.takeTable.set e (some { init := x.init, queue := x.queue, state := .active c }) } := by
  have hvacant : (s.vacate k).freeTake = some e := hentry
  rw [serve, hvacant]
  dsimp only
  rw [bindTake_eq_handOver, hqueue]
  rfl

/-- A held take that finds the Take Binding Table full is answered NO_BINDING with the empty pattern (R51, R95). -/
theorem serve_eq_fault (hentry : s.freeTake = none) (c : Nat) :
    serve k x c s = respondFault .noBinding x.init x.req.addr (some x.access.aperture) (some x.queue)
      (x.req.body.fill (s.queue x.queue).config.emptyPattern) (s.vacate k) := by
  have hvacant : (s.vacate k).freeTake = none := hentry
  rw [serve, hvacant]
  rfl

/-- After an offer of room no held put waits on a queue that is not full (R92). -/
theorem offerRoom_full (hdrain : s.drain = false) : ∀ k ∈ (offerRoom s).arrival, ∀ x, (offerRoom s).slots[k] = some x →
    x.kind = .put → (offerRoom s).full x.queue = true := grantee_eq_none_iff.mp (offerRoom_end hdrain)

theorem serveTakes_none {q : QueueId} (h : NoService s q) : serveTakes q s = s := serveLoop_none h _

end

/-- Settles O56: what waits after every step is `heldWait_step`; the rest is one lemma for each outcome of a grant and of a service,
and the loops. -/
theorem heldRequestsGranted : Obligations.HeldRequestsGranted := by
  refine ⟨fun s t h hwait hstep => heldWait_step h hwait hstep,
    fun s => ⟨fun hidle => ⟨offerRoom_none hidle, exec_heldPutGrant_idle hidle⟩, fun k x hdrain hgrantee =>
      ⟨offerRoom_some hdrain hgrantee, exec_heldPutGrant_found hdrain hgrantee⟩⟩,
    fun s q => ⟨fun hidle => ?_, fun before after k x c harrival hslot htake hqueue hbefore hcell => ?_⟩,
    fun s k x => grantee_eq_some_iff,
    fun s k x hdrain hgrantee => ⟨fun e c rest hqueue hentry hfree => ?_, fun hentry => ?_⟩,
    fun s q before after k x c harrival hslot htake hqueue haccess hbefore hcell => ?_,
    fun s hdrain => offerRoom_full hdrain,
    fun s q => (serveTakes_end q s).symm.imp_right heldTake_eq_none_iff.mp⟩
  · have hnone : NoService s q := hidle.symm.imp_left heldTake_eq_none_iff.mpr
    exact ⟨serveTakes_none hnone, exec_heldTakeService_idle hnone⟩
  · have hheld := heldTake_eq_some_iff.mpr ⟨before, after, harrival, hslot, htake, hqueue, hbefore⟩
    exact ⟨serveTakes_some hheld hcell, exec_heldTakeService_found hheld hcell⟩
  · rw [exec_heldPutGrant_found hdrain hgrantee, grant_eq_handOver hqueue hentry hfree]
  · refine exists_faulted (u := s.vacate k) ?_ rfl (fun _ => rfl) rfl
    rw [exec_heldPutGrant_found hdrain hgrantee, grant_eq_fault hentry]
  · have hexec := exec_heldTakeService_found
      (heldTake_eq_some_iff.mpr ⟨before, after, harrival, hslot, htake, hqueue, hbefore⟩) hcell
    subst hqueue
    refine ⟨fun e hentry => ?_, fun hentry => ?_⟩
    · rw [hexec, serve_eq_handOver haccess hentry]
    · refine exists_faulted (u := s.vacate k) ?_ rfl (fun _ => rfl) rfl
      rw [hexec, serve_eq_fault hentry]

end Sys2Proof.Machine
end
